-- ==== Sys2Proof/Word.lean ====
section
/-! DEFINITION. The words the GQ3T40 handles and the small families indexed by channel and by party (spec 00, "Units and conventions"). -/

namespace Sys2Proof

/-- One byte on a link, on the sample link or in the nonvolatile array. -/
abbrev Byte := BitVec 8

/-- A signed 16-bit converter code (spec 00, "Samples"). -/
abbrev Sample := BitVec 16

/-- The measuring channels 1, 2 and 3. -/
inductive Chan
  | c1 | c2 | c3
  deriving DecidableEq, Repr

/-- One value for each channel. -/
structure Tri (α : Type) where
  c1 : α
  c2 : α
  c3 : α
  deriving DecidableEq, Repr

/-- A set of channels. -/
abbrev ChanSet := Tri Bool

/-- The three parties; a party is known only by its link (spec 11). -/
inductive Party
  | supply | premises | field
  deriving DecidableEq, Repr

/-- One value for each party's port. -/
structure PerParty (α : Type) where
  supply : α
  premises : α
  field : α
  deriving DecidableEq, Repr

/-- A set of parties. -/
abbrev PartySet := PerParty Bool

/-- Who a journal record comes from: the part itself or a party (spec 00, "The parties"). -/
inductive Origin
  | recorder
  | party (p : Party)
  deriving DecidableEq, Repr

end Sys2Proof
end

