-- ==== Sys2Proof/Syntax.lean ====
section
/-! DEFINITION. The commands the block takes: one constructor for each row of spec/opcode_table.json, with the operands the row's rule names. -/

namespace Sys2Proof

/-- One byte as the sample link delivers it: its eight data bits and whether its stop bit read high (R2). -/
structure LineByte where
  data : Byte
  stopHigh : Bool
  deriving DecidableEq, Repr

/-- A recording profile in the wire widths of spec 11.9 "Profile (42 bytes)"; fields in index order of R157. -/
structure Profile where
  udecl : BitVec 16
  nominalHz : Byte
  channels : Byte
  reference : Byte
  gain1 : BitVec 16
  gain2 : BitVec 16
  gain3 : BitVec 16
  crossHyst : BitVec 16
  dipThr : BitVec 16
  swellThr : BitVec 16
  intrThr : Byte
  hyst : Byte
  rvcThr : Byte
  rvcWindow : Byte
  burstRun : Byte
  burstSpacing : BitVec 16
  burstQuiet : BitVec 16
  intervalLen : BitVec 16
  capPre : BitVec 16
  capPost : BitVec 16
  capExt : Byte
  capHold : Byte
  recurThr : Byte
  recurAge : BitVec 16
  retention : BitVec 16
  enrolled : Byte
  commitWeight : Byte
  noteTimeout : Byte
  deriving DecidableEq, Repr

/-- The event types that have a fold machine (spec 04, section 4.3). -/
inductive FoldType
  | dip | swell | rvc
  deriving DecidableEq, Repr

/-- The 51 rows of spec/opcode_table.json. A request carries the port it came in on, its tag and its fields (spec 11.9). -/
inductive Instr
  | sampleFrame (line : List LineByte)
  | silenceTimerExpiry
  | resyncTimeout
  | forcedBoundary
  | freeRunBoundary
  | seamTimeout
  | candidateTimeout
  | foldQuietClose (t : FoldType)
  | forcedAdoption
  | slotFull (slot : BitVec 2)
  | captureExpiry (slot : BitVec 2)
  | recordProgramComplete (agrees : Bool)
  | sectorEraseComplete
  | settingsProgramComplete (agrees : Bool)
  | compactionComplete (verifies : List Bool)
  | readBurstLands
  | powerOn
  | resetAsserted
  | resetReleased
  | startUpScanComplete
  | supplyFailTaken
  | supplyFailReleased
  | supplyRecovered
  | proposalLapse
  | noteTimeout (port : Party)
  | requestFrameError (port : Party) (frame : List Byte)
  | transferEnd (port : Party) (clockedIn : List Byte)
  | identify (port : Party) (tag : Byte)
  | readLive (port : Party) (tag : Byte) (selector : Byte)
  | seek (port : Party) (tag : Byte) (target : Byte) (sequence : BitVec 32) (option : Byte)
  | readNext (port : Party) (tag : Byte) (count : Byte)
  | release (port : Party) (tag : Byte) (value : BitVec 32)
  | captureNow (port : Party) (tag : Byte)
  | readCapture (port : Party) (tag : Byte) (serial : BitVec 32) (offset : BitVec 16) (count : Byte)
  | releaseCapture (port : Party) (tag : Byte) (serial : BitVec 32)
  | readProfile (port : Party) (tag : Byte) (selector : Byte)
  | propose (port : Party) (tag : Byte) (expiry : BitVec 16) (profile : Profile)
  | concur (port : Party) (tag : Byte) (number : Byte)
  | withdraw (port : Party) (tag : Byte)
  | markTime (port : Party) (tag : Byte) (stated : BitVec 64) (quality : Byte)
  | noteBegin (port : Party) (tag : Byte) (topic : Byte)
  | noteText (port : Party) (tag : Byte) (chars : List Byte)
  | noteEnd (port : Party) (tag : Byte)
  | nextNotice (port : Party) (tag : Byte)
  | acknowledgeAttention (port : Party) (tag : Byte)
  | setNoticeMask (port : Party) (tag : Byte) (masks : BitVec 16) (levels : BitVec 16)
  | selectTally (port : Party) (tag : Byte) (tally : Byte) (selection : Byte)
  | readTallies (port : Party) (tag : Byte)
  | readRecurrence (port : Party) (tag : Byte) (start : Byte)
  | portReset (port : Party) (tag : Byte)
  | powerEnds
  deriving DecidableEq, Repr

end Sys2Proof
end

