-- ==== Sys2Proof/Config.lean ====
section
/-! DEFINITION. What an implementation fixes and the free values: constants without a body, so that nothing can be proved of a value the spec leaves open. -/

namespace Sys2Proof.Config

/-- FREE VALUE (log entry 6, DESIGN CHOICE): the byte an array cell holds after a program or erase that did not end as intended.
The first argument is the model's free-value counter, the second the offset in the slot or sector. -/
opaque freeByte : Nat → Nat → Byte

/-- FREE VALUE (log entry 7, DESIGN CHOICE): which of two orders is taken where the spec leaves the order inside one step open. -/
opaque openOrder : Nat → Bool

/-- FREE VALUE (log entry 14, DESIGN CHOICE): how many of the start-up scan's repairs were complete when the scan was cut short. -/
opaque scanProgress : Nat → Nat

/-- FREE VALUE (log entry 11, DESIGN CHOICE): how many payload bytes of a Read Next response come before its records. -/
opaque readNextOwnBytes : Nat

/-- FREE VALUE (log entry 19, DESIGN CHOICE): the 32-bit recorded seconds of a record built after the count passed 32 bits. -/
opaque secondsBeyond : Nat → BitVec 32

/-- FREE VALUE (log entry 18, DESIGN CHOICE): the mark answered to a Release whose party was dropped from enrolment while the Release waited,
with OK or with JOURNAL_FAULT. -/
opaque droppedMark : Nat → Nat

/-- The unit serial number, written at manufacture and unique to the part (R174; log entry 26, DESIGN CHOICE). -/
opaque unitSerial : BitVec 64

end Sys2Proof.Config
end

