-- ==== Sys2Proof/Machine/Types.lean ====
section
/-! DEFINITION. The state of every block of the part, as plain data: one structure per block, in the order of the spec's chapters, and `Part`, which holds them all. -/

namespace Sys2Proof.Machine

/-! ## Journal records (spec 09 R134; payloads of spec 11.9) -/

/-- Cause of a RESTART record (R199). -/
inductive RestartCause
  | powerOn | resetPin | supplyRecovered
  deriving DecidableEq, Repr

/-- How a note ended (R184). -/
inductive NoteClosure
  | ended | timeout | superseded | portReset
  deriving DecidableEq, Repr

/-- Cause of an ACQ_GAP record (R6, R8). -/
inductive GapCause
  | jump | silence
  deriving DecidableEq, Repr

/-- Cause of a TRACKING record (R19). -/
inductive TrackingCause
  | freeRunEntered | lockRegained | referenceReturned
  deriving DecidableEq, Repr

/-- Sub-type of an EVENT record (R55, R66). -/
inductive SubType
  | dip | swell | interruption | rvc
  deriving DecidableEq, Repr

/-- How a fold closed (R75). -/
inductive FoldClosure
  | quiet | profile | supplyFail
  deriving DecidableEq, Repr

/-- What triggered a capture (spec 07, section 7.2). -/
inductive Trigger
  | dip | swell | interruption | manual
  deriving DecidableEq, Repr

/-- The flags of an EVENT record, in the bit order of spec 11.9. -/
structure EventFlags where
  spansGap : Bool
  overRange : Bool
  freeRunning : Bool
  recurrent : Bool
  closedByProfile : Bool
  closedBySupplyFail : Bool
  sharedCapture : Bool
  captureRefused : Bool
  deriving DecidableEq, Repr

/-- Payload of an EVENT record (R55, R66). -/
structure EventRecord where
  subType : SubType
  number : Nat
  start : Nat
  stop : Option Nat
  halfCycles : Nat
  extreme : Nat
  extremeChan : Chan
  uss : Option Nat
  chans : ChanSet
  flags : EventFlags
  linked : Option Nat
  serial : Option Nat
  recurrence : Option (Nat × Nat)
  deriving DecidableEq, Repr

/-- Running flags of a fold summary, in the bit order of the BURST payload (spec 11.9). -/
structure BurstFlags where
  spansGap : Bool
  overRange : Bool
  freeRunning : Bool
  closedByProfile : Bool
  closedBySupplyFail : Bool
  deriving DecidableEq, Repr

/-- The summary a fold machine keeps (spec 04, section 4.3). -/
structure Summary where
  count : Nat
  firstStart : Nat
  lastEnd : Option Nat
  extreme : Nat
  extremeChan : Chan
  chans : ChanSet
  total : Nat
  flags : BurstFlags
  deriving DecidableEq, Repr

/-- Payload of a BURST record (R75). -/
structure BurstRecord where
  type : FoldType
  number : Nat
  summary : Summary
  closure : FoldClosure
  deriving DecidableEq, Repr

/-- Payload of a CAPTURE record (R109). -/
structure CaptureRecord where
  serial : Nat
  trigger : Trigger
  event : Option Nat
  origin : Origin
  triggerFrame : Nat
  preCount : Nat
  total : Nat
  slots : Nat
  truncated : Bool
  deriving DecidableEq, Repr

/-- The five marks of an interval (spec 05, section 5.1). -/
structure IntervalFlags where
  flagged : Bool
  gap : Bool
  freeRunning : Bool
  overRange : Bool
  short : Bool
  deriving DecidableEq, Repr

/-- One channel block of an INTERVAL record (R86). -/
structure ChannelBlock where
  value : Nat
  low : Nat
  high : Nat
  deriving DecidableEq, Repr

/-- Payload of an INTERVAL record (R86). -/
structure IntervalRecord where
  index : Nat
  start : Nat
  halfCycles : Nat
  blocks : Tri (Option ChannelBlock)
  frequency : Option Nat
  withheld : Option Nat
  flags : IntervalFlags
  deriving DecidableEq, Repr

/-- The overflow summary, and the payload of an OVERFLOW record (R118, R119). -/
structure Overflow where
  restart : Nat
  supplyFail : Nat
  profile : Nat
  event : Nat
  burst : Nat
  capture : Nat
  acqGap : Nat
  tracking : Nat
  first : Nat
  last : Nat
  deriving DecidableEq, Repr

/-- The thirteen kinds of journal record with their content (R134). -/
inductive Payload
  | restart (cause : RestartCause) (prevLast : Option Nat) (number : Nat)
  | supplyFail (events : List Nat) (priority portClass bulk : Nat)
  | profile (number : Nat) (proposer : Option Party) (agreeing : PartySet) (forced isDefault : Bool) (contents : Profile)
  | release (party : Party) (newMark prevMark : Nat)
  | timeMark (stated : BitVec 64) (quality : Byte)
  | note (topic : Byte) (beginFrame : Nat) (closure : NoteClosure) (truncated : Bool) (text : List Byte)
  | event (e : EventRecord)
  | burst (b : BurstRecord)
  | capture (c : CaptureRecord)
  | interval (i : IntervalRecord)
  | acqGap (first count : Nat) (cause : GapCause)
  | tracking (cause : TrackingCause) (old new : Chan) (count : Nat)
  | overflow (o : Overflow)
  deriving DecidableEq, Repr

/-- The thirteen record kinds by name (R134). -/
inductive Kind
  | restart | supplyFail | profile | release | timeMark | note | event | burst | capture | interval | acqGap | tracking | overflow
  deriving DecidableEq, Repr

/-- Header flags, set when the record is built (R134). -/
structure HeaderFlags where
  acqAbsent : Bool
  acqLost : Bool
  supplyFailing : Bool
  deriving DecidableEq, Repr

/-- A finished record as a queue holds it: everything but its sequence number (spec 08, section 8.1). -/
structure Rec where
  origin : Origin
  flags : HeaderFlags
  epoch : Nat
  frame : Nat
  seconds : Nat
  payload : Payload
  deriving DecidableEq, Repr

/-! ## Receiver (spec 01, section 1.1) -/

/-- Acquisition state. -/
inductive Acq
  | absent | running | lost
  deriving DecidableEq, Repr

/-- State of the sample link receiver. -/
structure Receiver where
  acq : Acq
  lastSeq : Option Byte
  lastSamples : Option (Tri Sample)
  frameIndex : Nat
  /-- whether a frame has been delivered in the epoch (R3: "the frame index is 0 with no frame delivered") -/
  delivered : Bool
  epoch : Nat
  lastFrameTime : Option Nat
  checkFailed : Nat
  duplicates : Nat
  substituted : Nat
  failureFrame : Option Nat
  /-- the sync byte and the bytes after it of the frame being assembled (R2) -/
  assembling : List Byte
  deriving DecidableEq, Repr

/-! ## Cycle tracker (spec 01, section 1.3) -/

/-- Tracker state. -/
inductive TrackerMode
  | resync | locked | freeRunning
  deriving DecidableEq, Repr

/-- Arm of a channel (R11). -/
inductive Arm
  | none | high | low
  deriving DecidableEq, Repr

/-- Return of the reference (R16, R17). -/
inductive Return
  | none | pending | seam
  deriving DecidableEq, Repr

/-- The open half-cycle: its start frame, its substituted mark and the channel whose crossing opened it (absent when it was
opened by length), which decides the locked attribute of R18. -/
structure OpenHalf where
  start : Nat
  substituted : Bool
  openedBy : Option Chan
  deriving DecidableEq, Repr

/-- State of the cycle tracker. -/
structure Tracker where
  mode : TrackerMode
  active : Chan
  openHalf : Option OpenHalf
  framesWaited : Nat
  arm : Tri Arm
  crossed : ChanSet
  lastCrossed : ChanSet
  lengthRun : Nat
  spellCount : Nat
  spellRef : Chan
  refRun : Nat
  ret : Return
  deriving DecidableEq, Repr

/-- How a half-cycle was closed (R18). -/
inductive Closure
  | crossing | forced | freeRun
  deriving DecidableEq, Repr

/-- The half-cycle result the tracker emits at a boundary (R18). -/
structure HalfCycle where
  start : Nat
  boundary : Nat
  length : Nat
  forced : Bool
  freeRunning : Bool
  substituted : Bool
  locked : Bool
  closure : Closure
  deriving DecidableEq, Repr

/-! ## Value engine (spec 02) -/

/-- One channel's entry of a value set (R27); `u` is absent with *no-value*. -/
structure ChanValue where
  sum : Nat
  clip : Nat
  u : Option Nat
  overRange : Bool
  deriving DecidableEq, Repr

/-- A half-cycle value set (R27). Channels not in use have no entry. -/
structure ValueSet where
  result : HalfCycle
  inUse : ChanSet
  entries : Tri (Option ChanValue)
  deriving DecidableEq, Repr

/-- The level set in cV (R31). -/
structure Levels where
  dipStart : Nat
  dipEnd : Nat
  swellStart : Nat
  swellEnd : Nat
  intrStart : Nat
  intrEnd : Nat
  rvcBand : Nat
  deriving DecidableEq, Repr

/-- State of the value engine. -/
structure Engine where
  openSum : Tri Nat
  openCount : Nat
  openClip : Tri Nat
  prevSum : Tri Nat
  prevCount : Nat
  prevClip : Tri Nat
  prevValid : Tri Bool
  levels : Levels
  last : Option ValueSet
  deriving DecidableEq, Repr

/-! ## Event classifier (spec 03, section 3.1) -/

/-- The three flags of a channel. -/
structure ChanFlags where
  dip : Bool
  swell : Bool
  intr : Bool
  deriving DecidableEq, Repr

/-- The event types with a polyphase machine. -/
inductive EventType
  | dip | swell | interruption
  deriving DecidableEq, Repr

/-- The capture answer an event keeps (R49, R50). -/
inductive CaptureAnswer
  | absent
  | taken (serial : Nat)
  | shared (serial : Nat)
  | refused
  deriving DecidableEq, Repr

/-- Running flags of an open event or candidate (R41, R46). -/
structure RunFlags where
  spansGap : Bool
  overRange : Bool
  freeRunning : Bool
  deriving DecidableEq, Repr

/-- An open event of a machine. -/
structure OpenEvent where
  folded : Bool
  number : Option Nat
  start : Nat
  halfCycles : Nat
  extreme : Nat
  extremeChan : Chan
  chans : ChanSet
  flags : RunFlags
  capture : CaptureAnswer
  linked : Option Nat
  deriving DecidableEq, Repr

/-- State of the event classifier; a machine that is `none` is IDLE. -/
structure Classifier where
  flags : Tri ChanFlags
  dip : Option OpenEvent
  swell : Option OpenEvent
  interruption : Option OpenEvent
  nextEvent : Nat
  deriving DecidableEq, Repr

/-- What the classifier hands the RVC monitor and the aggregator for a boundary (R48). -/
structure Outcome where
  openedDipSwell : Bool
  endedDipSwell : Bool
  openDipSwell : Bool
  flagged : Bool
  deriving DecidableEq, Repr

/-! ## RVC monitor (spec 04, section 4.1) -/

/-- Monitor state. -/
inductive RvcMode
  | steadyWait | steady | candidate
  deriving DecidableEq, Repr

/-- One value set as the windows hold it: every channel's value and the start frame of its half-cycle (R57, R63). -/
structure WindowEntry where
  u : Tri Nat
  start : Nat
  deriving DecidableEq, Repr

/-- State of the RVC monitor; the fields after the window are held in CANDIDATE. -/
structure Rvc where
  mode : RvcMode
  window : List WindowEntry
  preMean : Tri Nat
  uMax : Nat
  uMaxChan : Chan
  start : Nat
  count : Nat
  affected : ChanSet
  flags : RunFlags
  deriving DecidableEq, Repr

/-! ## Fold machines (spec 04, section 4.3) -/

/-- State of one fold machine; `startDistance` is used by the RVC fold alone. -/
structure Fold where
  isOpen : Bool
  runCount : Nat
  sinceEnd : Option Nat
  startDistance : Option Nat
  burst : Option Nat
  summary : Summary
  deriving DecidableEq, Repr

/-- The three fold machines. -/
structure Folds where
  dip : Fold
  swell : Fold
  rvc : Fold
  deriving DecidableEq, Repr

/-! ## Interval aggregator (spec 05, section 5.1) -/

/-- State of the interval aggregator. -/
structure Aggregator where
  index : Nat
  start : Nat
  stop : Nat
  halfCycles : Nat
  sumS : Tri Nat
  sumN : Tri Nat
  low : Tri (Option Nat)
  high : Tri (Option Nat)
  lockedH : Nat
  lockedN : Nat
  flags : IntervalFlags
  lastMissing : Option Nat
  deriving DecidableEq, Repr

/-! ## Recurrence table (spec 06, section 6.1) -/

/-- The four parts of a signature (R91). -/
structure Signature where
  type : EventType
  chans : ChanSet
  depth : Nat
  duration : Nat
  deriving DecidableEq, Repr

/-- An (epoch, frame) pair. -/
structure Stamp where
  epoch : Nat
  frame : Nat
  deriving DecidableEq, Repr

/-- A valid entry. -/
structure RecurEntry where
  signature : Signature
  count : Nat
  firstSeen : Stamp
  lastSeen : Stamp
  noticeSent : Bool
  deriving DecidableEq, Repr

/-- The recurrence table: 64 entries, an invalid one being `none`. -/
structure Recurrence where
  entries : List (Option RecurEntry)
  revision : Nat
  deriving DecidableEq, Repr

/-! ## Capture unit (spec 07) -/

/-- A delivered frame's content as the ring and the slots keep it. -/
structure CapFrame where
  samples : Tri Sample
  substituted : Bool
  deriving DecidableEq, Repr

/-- A frame of the pre-trigger ring. -/
structure RingFrame where
  index : Nat
  content : CapFrame
  deriving DecidableEq, Repr

/-- A FILLING (`held` false) or HELD (`held` true) slot (spec 07, section 7.2). The filled count is the length of `frames`. The
hold start and hold length of a FILLING slot are 0 and are shown nowhere (log entry 42, DESIGN CHOICE). `target`, `preTrigger` and
`allowance` are the settings taken from the profile in force at the trigger: T, the pre-trigger setting and E (R105, R114). -/
structure CapSlot where
  held : Bool
  serial : Nat
  trigger : Trigger
  event : Option Nat
  origin : Origin
  triggerFrame : Nat
  firstFrame : Nat
  preCount : Nat
  frames : List CapFrame
  remaining : Nat
  allowance : Nat
  target : Nat
  preTrigger : Nat
  next : Option Nat
  truncated : Bool
  released : PartySet
  holdStart : Nat
  holdLength : Nat
  deriving DecidableEq, Repr

/-- State of the capture unit: a FREE slot is `none`; there are four slots. `resumed` is the accepted frame that followed the latest gap of
the epoch, which R106 and R109 speak of (log entry 33, DESIGN CHOICE). -/
structure Capture where
  ring : List RingFrame
  slots : List (Option CapSlot)
  nextSerial : Nat
  resumed : Option Nat
  deriving DecidableEq, Repr

/-! ## Commit path (spec 08, section 8.1) -/

/-- State of the commit path. -/
structure Commit where
  priority : List Rec
  bulk : List Rec
  credit : Nat
  overflow : Option Overflow
  withheld : Nat
  inHand : Option Rec
  deriving DecidableEq, Repr

/-! ## Array and arbiter (spec 08, section 8.7) -/

/-- A requester of the array. -/
inductive Requester
  | writer
  | port (p : Party)
  deriving DecidableEq, Repr

/-- The work the writer has chosen and asks the array for (R124, R125). -/
inductive Work
  | retry | settings | erase | priority | bulk
  deriving DecidableEq, Repr

/-- An operation in progress on the array. -/
inductive ArrayOp
  | recordProgram
  | settingsProgram
  | compaction
  | erase (sector : Nat)
  | burst (p : Party)
  deriving DecidableEq, Repr

/-- State of the array and its arbiter; `op` absent is IDLE, `choice` is the writer's request when it stands. `chosenRelease` is the party
whose RELEASE record has replaced the one the writer had chosen, until the writer takes it (R124; log entry 40, DEDUCED). -/
structure ArrayState where
  op : Option ArrayOp
  lastGranted : Requester
  choice : Option Work
  chosenRelease : Option Party
  deriving DecidableEq, Repr

/-! ## Journal controller (spec 09, section 9.1) -/

/-- Journal state. -/
inductive JournalState
  | starting | writing | erasing | blocked | faulted
  deriving DecidableEq, Repr

/-- Fault cause. -/
inductive FaultCause
  | programFailures | sequencesExhausted
  deriving DecidableEq, Repr

/-- State of a ring sector. -/
inductive SectorState
  | erased | isOpen | full | erasing
  deriving DecidableEq, Repr

/-- A valid record of a sector as the sector table keeps it. -/
structure Stored where
  slot : Nat
  seq : Nat
  seconds : Nat
  deriving DecidableEq, Repr

/-- A sector table entry: first sequence and valid count are those of `valid`, in slot order. -/
structure Sector where
  state : SectorState
  valid : List Stored
  dirty : List Nat
  deriving DecidableEq, Repr

/-- The content of a settings entry (R148). -/
inductive Setting
  | profile (number : Nat) (contents : Profile)
  | epoch (number base : Nat)
  | mark (party : Party) (mark : Nat)
  deriving DecidableEq, Repr

/-- A settings entry waiting to be programmed. `release`: a Release brought it; `answers`: that Release waits for it (R144). `record`: the PROFILE record that is
handed over when it verifies (R166). -/
structure PendingSetting where
  setting : Setting
  release : Bool
  answers : Bool
  record : Option Rec
  deriving DecidableEq, Repr

/-- A compaction in progress (R150): the copies still to be programmed, each with a mark saying whether it is the entry that
triggered the compaction, and the next slot of the target sector. With no copy left it is erasing the full sector. -/
structure Compaction where
  copies : List (Setting × Bool)
  slot : Nat
  deriving DecidableEq, Repr

/-- State of the journal controller. -/
structure Journal where
  state : JournalState
  sectors : List Sector
  openSector : Nat
  writeSlot : Nat
  newest : Option Nat
  markSupply : Option Nat
  markPremises : Option Nat
  failureCount : Nat
  faultCause : Option FaultCause
  settingsActive : Nat
  settingsSlot : Nat
  nextSettings : Nat
  curProfile : Option Setting
  curEpoch : Option Setting
  curMarkSupply : Option Setting
  curMarkPremises : Option Setting
  pendingSettings : List PendingSetting
  compaction : Option Compaction
  epochBase : Nat
  deriving DecidableEq, Repr

/-! ## Profile unit (spec 10, section 10.1) -/

/-- A pending proposal. -/
structure Proposal where
  number : Byte
  proposer : Party
  contents : Profile
  expiry : Nat
  agreeing : PartySet
  consented : Bool
  deriving DecidableEq, Repr

/-- The adoption state DEFERRED. -/
structure Deferral where
  start : Nat
  forced : Bool
  deriving DecidableEq, Repr

/-- State of the profile unit. -/
structure ProfileUnit where
  inForce : Profile
  number : Nat
  proposal : Option Proposal
  lastProposal : Byte
  deferral : Option Deferral
  deriving DecidableEq, Repr

/-! ## Notices and tallies (spec 12) -/

/-- The twelve notice kinds, in their numbers' order (R187). -/
inductive NoticeKind
  | journalBlocked | recordsExpired | recordsWithheld | eventRecorded | captureReady | captureSlotsFull
  | proposalPending | profileAdopted | proposalLapsed | recurrenceThreshold | acquisitionLost | intervalClosed
  deriving DecidableEq, Repr

/-- The detail a notice keeps (R187). -/
inductive Detail
  | none
  | blocked
  | faulted
  | number (n : Nat)
  deriving DecidableEq, Repr

/-- A pending notice (R188). -/
structure Notice where
  kind : NoticeKind
  count : Nat
  epoch : Nat
  frame : Nat
  detail : Detail
  deriving DecidableEq, Repr

/-- Tally selections (spec 12, section 12.4). -/
inductive Selection
  | dips | swells | interruptions | rvcs | bursts | foldedEvents | capturesRefused | recordsWithheld | linkErrors
  deriving DecidableEq, Repr

/-- One tally. -/
structure Tally where
  selection : Selection
  value : BitVec 32
  deriving DecidableEq, Repr

/-! ## Port controllers (spec 11, section 11.1) -/

/-- Response statuses (spec 11.3). -/
inductive Status
  | ok | clamped | caughtUp | partialFill | linkCrc | badFrame | unknownRequest | busy | starting | supplyFailing
  | queueFull | notEnrolled | outOfRange | captureBusy | captureGone | noteIdle | journalFault
  | invalidProfile | proposalPending | staleProposal | noProposal | notProposer | adopting
  deriving DecidableEq, Repr

/-- The content of a note (R182, R183). -/
structure NoteContent where
  topic : Byte
  text : List Byte
  beginFrame : Nat
  truncated : Bool
  deriving DecidableEq, Repr

/-- Note state with what it holds; an AWAITING_COMMIT note keeps its finished record (R185). -/
inductive Note
  | idle
  | assembling (content : NoteContent) (lastActivity : Nat)
  | awaiting (content : NoteContent) (closed : Rec)
  deriving DecidableEq, Repr

/-- A port's burst (spec 11, section 11.1). -/
inductive Burst
  | absent
  | standing
  | inFlight (start : Nat) (discard : Bool)
  deriving DecidableEq, Repr

/-- A record copied from the journal, as stored (R146). -/
structure BufRec where
  seq : Nat
  bytes : List Byte
  deriving DecidableEq, Repr

/-- A request whose answer is held (R173): a Read Next waiting for a landing, with its count and what it has skipped, or a
Release waiting for its MARK entry, with the mark before it. -/
inductive Held
  | readNext (count : Nat) (skipped : Nat)
  | release (previous : Nat)
  deriving DecidableEq, Repr

/-- A request in progress; `abandoned` once its transfer has ended (R173). -/
structure InProgress where
  tag : Byte
  held : Held
  abandoned : Bool
  deriving DecidableEq, Repr

/-! ## What responses carry -/

/-- Identify (R174). -/
structure IdentifyInfo where
  partCode : BitVec 16
  revision : Nat
  unitSerial : BitVec 64
  journal : JournalState
  epoch : Option Nat
  newest : Option Nat
  profileNumber : Option Nat
  deriving DecidableEq, Repr

/-- The last value set as Read Live reports it: the boundary frame, the tracker attributes and, for each channel that was in use, U (absent
with *no-value*) and the over-range mark (R18, R28). -/
structure LastValues where
  boundary : Nat
  forced : Bool
  freeRunning : Bool
  substituted : Bool
  locked : Bool
  closure : Closure
  values : Tri (Option (Option Nat × Bool))
  deriving DecidableEq, Repr

/-- The receiver and tracker part of Read Live MEASUREMENT (R2, R3, R9, R18, R28, R88). -/
structure MeasurementView where
  acq : Acq
  checkFailed : Nat
  duplicates : Nat
  substituted : Nat
  mode : TrackerMode
  active : Chan
  lastCrossed : ChanSet
  lastValues : Option LastValues
  index : Nat
  start : Nat
  stop : Nat
  halfCycles : Nat
  flags : IntervalFlags
  low : Tri (Option Nat)
  high : Tri (Option Nat)
  lockedH : Nat
  lockedN : Nat
  deriving DecidableEq, Repr

/-- An OPEN machine in Read Live EVENTS (R56): the open event, with the burst number in place of a folded event's number. -/
structure EventView where
  shownNumber : Option Nat
  event : OpenEvent
  deriving DecidableEq, Repr

/-- The RVC monitor in Read Live EVENTS (R58). -/
inductive RvcView
  | steadyWait (held : Nat)
  | steady (means : Tri (Option Nat))
  | candidate (start count : Nat) (preMean : Tri (Option Nat)) (uMax : Nat) (uMaxChan : Chan) (affected : ChanSet)
  deriving DecidableEq, Repr

/-- Read Live EVENTS (R56, R58, R77). Flags are given for channels in use. -/
structure EventsView where
  flags : Tri (Option ChanFlags)
  dip : Option EventView
  swell : Option EventView
  interruption : Option EventView
  nextEvent : Nat
  rvc : RvcView
  folds : Folds
  deriving DecidableEq, Repr

/-- One slot in Read Live CAPTURE (R113); a FREE slot gives only its state, a HELD one also its hold start and expiry frame. -/
structure SlotView where
  held : Bool
  serial : Nat
  trigger : Trigger
  event : Option Nat
  origin : Origin
  triggerFrame : Nat
  preCount : Nat
  filled : Nat
  remaining : Nat
  next : Option Nat
  truncated : Bool
  released : PartySet
  hold : Option (Nat × Nat)
  deriving DecidableEq, Repr

/-- Read Live CAPTURE (R113). -/
structure CaptureView where
  slots : List (Option SlotView)
  ringCount : Nat
  nextSerial : Nat
  deriving DecidableEq, Repr

/-- Read Live JOURNAL (R127, R129, R147, R169). -/
structure JournalView where
  priority : Nat
  portClass : Nat
  bulk : Nat
  credit : Nat
  weight : Option Nat
  overflow : Option Overflow
  withheld : Nat
  waitingNotes : PartySet
  inHand : Option Kind
  arrayBusy : Bool
  requester : Option Requester
  state : JournalState
  faultCause : Option FaultCause
  openSector : Nat
  writeSlot : Nat
  spare : Bool
  tail : Nat
  oldest : Nat
  newest : Option Nat
  markSupply : Option Nat
  markPremises : Option Nat
  failureCount : Nat
  settingsActive : Nat
  settingsSlot : Nat
  settingsPending : Bool
  marksPending : PartySet
  profileNumber : Nat
  proposal : Option (Byte × Party)
  adoption : Option Deferral
  deriving DecidableEq, Repr

/-- Note state as a port shows it (R175, R186). -/
inductive NoteView
  | idle
  | assembling (topic : Byte) (held : Nat) (truncated : Bool)
  | awaiting (topic : Byte) (held : Nat) (truncated : Bool)
  deriving DecidableEq, Repr

/-- Read Live PORT (R175, R188). -/
structure PortView where
  cursor : Nat
  buffered : Nat
  streaming : Bool
  burst : Burst
  overtaken : Bool
  note : NoteView
  notices : List Notice
  masked : BitVec 16
  lowLevel : BitVec 16
  attention : Bool
  tallyA : Tally
  tallyB : Tally
  tallyC : Tally
  deriving DecidableEq, Repr

/-- A section of Read Live (R175). -/
inductive LiveView
  | measurement (v : MeasurementView)
  | events (v : EventsView)
  | capture (v : CaptureView)
  | journal (v : JournalView)
  | port (v : PortView)
  deriving DecidableEq, Repr

/-- The header of a Read Capture response (R112). -/
structure CaptureHeader where
  serial : Nat
  held : Bool
  trigger : Trigger
  event : Option Nat
  origin : Origin
  triggerFrame : Nat
  firstFrame : Nat
  preCount : Nat
  framesHeld : Nat
  slots : Nat
  truncated : Bool
  deriving DecidableEq, Repr

/-- The conditions of R164 that defer an adoption. -/
structure DeferConditions where
  eventOpen : Bool
  candidate : Bool
  blocked : Bool
  erasePending : Bool
  deriving DecidableEq, Repr

/-- How a pending proposal stands (R169): milliseconds left to its expiry, or the adoption state once consented. -/
inductive ProposalStanding
  | waiting (remaining : Nat)
  | consented (adoption : Option Deferral) (passed : Nat) (conditions : DeferConditions)
  deriving DecidableEq, Repr

/-- One entry of a Read Recurrence response with its number (R99). -/
structure RecurItem where
  number : Nat
  entry : RecurEntry
  deriving DecidableEq, Repr

/-- The content of a response. The spec gives what each response says, not its byte layout (log entry 12, DESIGN CHOICE). -/
inductive Body
  | none
  | identify (i : IdentifyInfo)
  | live (epoch frame : Nat) (v : LiveView)
  | stream (cursor oldest : Nat) (newest : Option Nat)
  | records (skipped : Nat) (records : List (List Byte))
  | release (previous now : Nat)
  | captureTaken (serial triggerFrame slot : Nat)
  | capture (header : CaptureHeader) (frames : List CapFrame)
  | captureReleased (freed : Bool)
  | profileInForce (number : Nat) (contents : Profile)
  | proposal (number : Byte) (proposer : Party) (contents : Profile) (agreeing : PartySet) (standing : ProposalStanding)
  | invalidProfile (index code : Nat)
  | pendingProposal (number : Byte) (proposer : Party)
  | proposalNumber (number : Byte)
  | agreeing (parties : PartySet)
  | timeMark (epoch frame : Nat)
  | noteHeld (held : Nat) (truncated : Bool)
  | notice (n : Option Notice)
  | masks (masked lowLevel : BitVec 16)
  | tallies (a b c : Tally)
  | recurrence (epoch frame profileNumber revision valid : Nat) (items : List RecurItem) (resume : Option Nat)
  | portReset (cursor : Nat) (note : NoteView)
  deriving DecidableEq, Repr

/-- A formed response (R173). -/
structure Response where
  tag : Byte
  status : Status
  body : Body
  deriving DecidableEq, Repr

/-- State of one port controller. -/
structure Port where
  inProgress : Option InProgress
  response : Option Response
  ready : Bool
  cursor : Nat
  buffer : List BufRec
  streaming : Bool
  burst : Burst
  overtaken : Bool
  note : Note
  notices : List Notice
  masked : BitVec 16
  lowLevel : BitVec 16
  attention : Bool
  tallyA : Tally
  tallyB : Tally
  tallyC : Tally
  deriving DecidableEq, Repr

/-! ## The whole part -/

/-- All volatile state of the part. -/
structure Part where
  localTime : Nat
  /-- SUPPLY-FAIL has been taken (R195, R196) -/
  failing : Bool
  /-- the cause the restart in progress will record (R198, R199) -/
  restartCause : RestartCause
  receiver : Receiver
  tracker : Tracker
  engine : Engine
  classifier : Classifier
  rvc : Rvc
  folds : Folds
  aggregator : Aggregator
  recurrence : Recurrence
  capture : Capture
  commit : Commit
  array : ArrayState
  journal : Journal
  profile : ProfileUnit
  ports : PerParty Port
  /-- MODEL's own: how many free values have been used (log entries 6, 7, DESIGN CHOICE) -/
  freeCount : Nat
  deriving DecidableEq, Repr

end Sys2Proof.Machine
end

