-- ==== Sys2Proof/Machine/Bytes.lean ====
section
/-! DEFINITION. Byte order, the check value, the integer square root and the helpers over channels and parties that every block uses. -/

namespace Sys2Proof

/-! ## Channels and parties -/

/-- The channel's value. -/
def Tri.get {α : Type} (t : Tri α) : Chan → α
  | .c1 => t.c1
  | .c2 => t.c2
  | .c3 => t.c3

/-- The channel's value replaced. -/
def Tri.set {α : Type} (t : Tri α) (c : Chan) (a : α) : Tri α :=
  match c with
  | .c1 => { t with c1 := a }
  | .c2 => { t with c2 := a }
  | .c3 => { t with c3 := a }

/-- The same value for every channel. -/
def Tri.all {α : Type} (a : α) : Tri α := ⟨a, a, a⟩

/-- A value computed for every channel. -/
def Tri.build {α : Type} (f : Chan → α) : Tri α := ⟨f .c1, f .c2, f .c3⟩

/-- The channels in ascending order. -/
def Chan.list : List Chan := [.c1, .c2, .c3]

/-- The channel's number, 1..3. -/
def Chan.number : Chan → Nat
  | .c1 => 1
  | .c2 => 2
  | .c3 => 3

/-- Cyclic order over channels 1→2→3→1 (spec 00). -/
def Chan.after : Chan → Chan
  | .c1 => .c2
  | .c2 => .c3
  | .c3 => .c1

/-- The empty channel set. -/
def ChanSet.empty : ChanSet := ⟨false, false, false⟩

/-- Union of two channel sets. -/
def ChanSet.union (a b : ChanSet) : ChanSet := ⟨a.c1 || b.c1, a.c2 || b.c2, a.c3 || b.c3⟩

/-- Whether some channel of the set `s` satisfies `f`. -/
def ChanSet.any (s : ChanSet) (f : Chan → Bool) : Bool := (s.c1 && f .c1) || (s.c2 && f .c2) || (s.c3 && f .c3)

/-- Whether every channel of the set `s` satisfies `f`. -/
def ChanSet.every (s : ChanSet) (f : Chan → Bool) : Bool := (!s.c1 || f .c1) && (!s.c2 || f .c2) && (!s.c3 || f .c3)

/-- The next channel of the set after `c` in cyclic order; `c` itself when it is alone (R15). -/
def ChanSet.nextAfter (s : ChanSet) (c : Chan) : Chan :=
  if s.get c.after then c.after
  else if s.get c.after.after then c.after.after
  else c

/-- The set as it is sent: bit 0 for channel 1, bit 1 for channel 2, bit 2 for channel 3 (spec 11.9). -/
def ChanSet.code (s : ChanSet) : Nat := s.c1.toNat + 2 * s.c2.toNat + 4 * s.c3.toNat

/-- The party's value. -/
def PerParty.get {α : Type} (t : PerParty α) : Party → α
  | .supply => t.supply
  | .premises => t.premises
  | .field => t.field

/-- The party's value replaced. -/
def PerParty.set {α : Type} (t : PerParty α) (p : Party) (a : α) : PerParty α :=
  match p with
  | .supply => { t with supply := a }
  | .premises => { t with premises := a }
  | .field => { t with field := a }

/-- A function applied to every party's value. -/
def PerParty.map {α β : Type} (f : α → β) (t : PerParty α) : PerParty β := ⟨f t.supply, f t.premises, f t.field⟩

/-- The same value for every party. -/
def PerParty.all {α : Type} (a : α) : PerParty α := ⟨a, a, a⟩

/-- The parties in the fixed order SUPPLY, PREMISES, FIELD (R122, R127). -/
def Party.list : List Party := [.supply, .premises, .field]

/-- The set holding one party. -/
def PartySet.single (p : Party) : PartySet := (PerParty.all false).set p true

/-- The set with a party added. -/
def PartySet.add (s : PartySet) (p : Party) : PartySet := PerParty.set s p true

/-- The set as it is sent: bit 0 SUPPLY, bit 1 PREMISES, bit 2 FIELD (spec 11.9). -/
def PartySet.code (s : PartySet) : Nat := s.supply.toNat + 2 * s.premises.toNat + 4 * s.field.toNat

/-- A single party as it is coded, as in the origin field (spec 11.9). -/
def Party.code : Party → Nat
  | .supply => 1
  | .premises => 2
  | .field => 3

/-- The origin's code: 00 RECORDER, else the party's (spec 11.9). -/
def Origin.code : Origin → Nat
  | .recorder => 0
  | .party p => p.code

/-! ## Numbers -/

/-- A count that rises by `k` and holds at `top`. -/
def satAdd (top n k : Nat) : Nat := min top (n + k)

/-- 2^32 − 1, where the part's 32-bit counts hold or wrap. -/
def max32 : Nat := 4294967295

/-- A number drawn from 1..2^32 − 1 in turn: after the last the next is 1 (R43, R102, R166). -/
def nextNumber (n : Nat) : Nat := if n ≥ max32 then 1 else n + 1

/-- One bit of the integer square root: `r + 2^k` is kept when its square does not exceed `m`. -/
def isqrtStep (m k r : Nat) : Nat := if (r + 2 ^ k) * (r + 2 ^ k) ≤ m then r + 2 ^ k else r

/-- The bits `k − 1` down to 0 of the integer square root of `m`, from the root `r` found so far. -/
def isqrtBits (m : Nat) : Nat → Nat → Nat
  | 0, r => r
  | k + 1, r => isqrtBits m k (isqrtStep m k r)

/-- "isqrt" (spec 00): the largest integer whose square does not exceed the argument, for arguments below 2^64. -/
def isqrt (m : Nat) : Nat := isqrtBits m 32 0

/-- Distance between two values. -/
def absDiff (a b : Nat) : Nat := (a - b) + (b - a)

/-! ## Bytes, high byte first (R1) -/

/-- The low `k` bytes of `v`, high byte first. -/
def beBytes : Nat → Nat → List Byte
  | 0, _ => []
  | k + 1, v => BitVec.ofNat 8 (v / 256 ^ k) :: beBytes k v

/-- The number that bytes, high byte first, spell. -/
def beNat (bs : List Byte) : Nat := bs.foldl (fun n b => n * 256 + b.toNat) 0

/-- One bit shifted out of the check value's register: generator x^16 + x^12 + x^5 + 1 (R1). -/
def crcShift (c : BitVec 16) : BitVec 16 := if c.msb then (c <<< 1) ^^^ 0x1021#16 else c <<< 1

/-- `k` bits shifted out. -/
def crcShifts : Nat → BitVec 16 → BitVec 16
  | 0, c => c
  | k + 1, c => crcShifts k (crcShift c)

/-- One byte taken into the check value, most significant bit first (R1). -/
def crcByte (c : BitVec 16) (b : Byte) : BitVec 16 := crcShifts 8 (c ^^^ (b.zeroExtend 16 <<< 8))

/-- The check value of a run of bytes: all ones at the start, no final inversion (R1). -/
def crc (bs : List Byte) : BitVec 16 := bs.foldl crcByte 0xFFFF#16

/-- Bytes followed by their check value, high byte first (R1). -/
def withCheck (bs : List Byte) : List Byte := bs ++ beBytes 2 (crc bs).toNat

/-- Whether the last two bytes are the check value of those before them. -/
def checkHolds (bs : List Byte) : Bool :=
  let n := bs.length - 2
  decide (2 ≤ bs.length) && decide (bs.drop n = beBytes 2 (crc (bs.take n)).toNat)

end Sys2Proof
end

