-- ==== Sys2Proof/Machine/Flags.lean ====
section
/-! DEFINITION. The flag bytes of records and payloads, bit by bit as spec 11.9 lays them out, and the merging of running flags. -/

namespace Sys2Proof.Machine

/-- A list of flags as a number, the first in bit 0. -/
def flagBits : List Bool → Nat
  | [] => 0
  | b :: bs => b.toNat + 2 * flagBits bs

/-- Header flags: bit 0 ACQ_ABSENT, bit 1 ACQ_LOST, bit 2 SUPPLY_FAILING. -/
def HeaderFlags.code (f : HeaderFlags) : Nat := flagBits [f.acqAbsent, f.acqLost, f.supplyFailing]

/-- EVENT flags, bits 0 to 7. -/
def EventFlags.code (f : EventFlags) : Nat :=
  flagBits [f.spansGap, f.overRange, f.freeRunning, f.recurrent, f.closedByProfile, f.closedBySupplyFail, f.sharedCapture,
    f.captureRefused]

/-- BURST flags, bits 0 to 4. -/
def BurstFlags.code (f : BurstFlags) : Nat :=
  flagBits [f.spansGap, f.overRange, f.freeRunning, f.closedByProfile, f.closedBySupplyFail]

/-- INTERVAL flags, bits 0 to 4. -/
def IntervalFlags.code (f : IntervalFlags) : Nat := flagBits [f.flagged, f.gap, f.freeRunning, f.overRange, f.short]

/-- Union of a summary's flags with another's (R71, R75). -/
def BurstFlags.union (a b : BurstFlags) : BurstFlags where
  spansGap := a.spansGap || b.spansGap
  overRange := a.overRange || b.overRange
  freeRunning := a.freeRunning || b.freeRunning
  closedByProfile := a.closedByProfile || b.closedByProfile
  closedBySupplyFail := a.closedBySupplyFail || b.closedBySupplyFail

end Sys2Proof.Machine
end

