-- ==== Sys2Proof/Machine/Operands.lean ====
section
/-! DEFINITION. The recording profile read and checked (spec 10, R157, R158), its 42 bytes, and the codes a request's fields carry on the wire (spec 11.9). -/

namespace Sys2Proof

/-! ## The profile's settings as the blocks use them -/

/-- The channels in use: bit 0 for channel 1, bit 1 for channel 2, bit 2 for channel 3 (spec 11.9). -/
def Profile.inUse (p : Profile) : ChanSet := ⟨p.channels.getLsbD 0, p.channels.getLsbD 1, p.channels.getLsbD 2⟩

/-- The reference channel. -/
def Profile.refChan (p : Profile) : Chan :=
  if p.reference.toNat = 2 then .c2 else if p.reference.toNat = 3 then .c3 else .c1

/-- A channel's gain G. -/
def Profile.gain (p : Profile) : Chan → Nat
  | .c1 => p.gain1.toNat
  | .c2 => p.gain2.toNat
  | .c3 => p.gain3.toNat

/-- The enrolled parties: bit 0 SUPPLY, bit 1 PREMISES, bit 2 FIELD (spec 11.9). -/
def Profile.enrolledSet (p : Profile) : PartySet := ⟨p.enrolled.getLsbD 0, p.enrolled.getLsbD 1, p.enrolled.getLsbD 2⟩

/-- Whether a party is enrolled. -/
def Profile.isEnrolled (p : Profile) (q : Party) : Bool := p.enrolledSet.get q

/-- The commit weight: 4, 8 or 16, or absent for STRICT (code 00). -/
def Profile.weight (p : Profile) : Option Nat := if p.commitWeight.toNat = 0 then none else some p.commitWeight.toNat

/-- The free-run length: 102 frames at 50 Hz, 85 at 60 Hz (R14). -/
def Profile.freeRunLength (p : Profile) : Nat := if p.nominalHz.toNat = 60 then 85 else 102

/-- Interval length in frames: L × 10,240 (spec 05, section 5.2). -/
def Profile.intervalFrames (p : Profile) : Nat := p.intervalLen.toNat * 10240

/-- The retention age in recorded seconds (R139). -/
def Profile.retentionSeconds (pr : Profile) : Nat := pr.retention.toNat * 86400

/-- Frames of an hour at the nominal rate. -/
def hourFrames : Nat := 36864000

/-- The defaults of R157. -/
def Profile.default : Profile where
  udecl := 23000
  nominalHz := 50
  channels := 7
  reference := 1
  gain1 := 8192
  gain2 := 8192
  gain3 := 8192
  crossHyst := 64
  dipThr := 900
  swellThr := 1100
  intrThr := 50
  hyst := 20
  rvcThr := 33
  rvcWindow := 100
  burstRun := 16
  burstSpacing := 600
  burstQuiet := 3000
  intervalLen := 600
  capPre := 1024
  capPost := 3072
  capExt := 1
  capHold := 24
  recurThr := 3
  recurAge := 168
  retention := 62
  enrolled := 3
  commitWeight := 8
  noteTimeout := 10

/-! ## The 42 bytes (spec 11.9 "Profile") -/

/-- The profile's 42 bytes. -/
def Profile.encode (p : Profile) : List Byte :=
    beBytes 2 p.udecl.toNat ++
    beBytes 1 p.nominalHz.toNat ++
    beBytes 1 p.channels.toNat ++
    beBytes 1 p.reference.toNat ++
    beBytes 2 p.gain1.toNat ++
    beBytes 2 p.gain2.toNat ++
    beBytes 2 p.gain3.toNat ++
    beBytes 2 p.crossHyst.toNat ++
    beBytes 2 p.dipThr.toNat ++
    beBytes 2 p.swellThr.toNat ++
    beBytes 1 p.intrThr.toNat ++
    beBytes 1 p.hyst.toNat ++
    beBytes 1 p.rvcThr.toNat ++
    beBytes 1 p.rvcWindow.toNat ++
    beBytes 1 p.burstRun.toNat ++
    beBytes 2 p.burstSpacing.toNat ++
    beBytes 2 p.burstQuiet.toNat ++
    beBytes 2 p.intervalLen.toNat ++
    beBytes 2 p.capPre.toNat ++
    beBytes 2 p.capPost.toNat ++
    beBytes 1 p.capExt.toNat ++
    beBytes 1 p.capHold.toNat ++
    beBytes 1 p.recurThr.toNat ++
    beBytes 2 p.recurAge.toNat ++
    beBytes 2 p.retention.toNat ++
    beBytes 1 p.enrolled.toNat ++
    beBytes 1 p.commitWeight.toNat ++
    beBytes 1 p.noteTimeout.toNat

/-- The profile that 42 bytes spell. -/
def Profile.decode (bs : List Byte) : Profile where
    udecl := BitVec.ofNat 16 (beNat ((bs.drop 0).take 2))
    nominalHz := BitVec.ofNat 8 (beNat ((bs.drop 2).take 1))
    channels := BitVec.ofNat 8 (beNat ((bs.drop 3).take 1))
    reference := BitVec.ofNat 8 (beNat ((bs.drop 4).take 1))
    gain1 := BitVec.ofNat 16 (beNat ((bs.drop 5).take 2))
    gain2 := BitVec.ofNat 16 (beNat ((bs.drop 7).take 2))
    gain3 := BitVec.ofNat 16 (beNat ((bs.drop 9).take 2))
    crossHyst := BitVec.ofNat 16 (beNat ((bs.drop 11).take 2))
    dipThr := BitVec.ofNat 16 (beNat ((bs.drop 13).take 2))
    swellThr := BitVec.ofNat 16 (beNat ((bs.drop 15).take 2))
    intrThr := BitVec.ofNat 8 (beNat ((bs.drop 17).take 1))
    hyst := BitVec.ofNat 8 (beNat ((bs.drop 18).take 1))
    rvcThr := BitVec.ofNat 8 (beNat ((bs.drop 19).take 1))
    rvcWindow := BitVec.ofNat 8 (beNat ((bs.drop 20).take 1))
    burstRun := BitVec.ofNat 8 (beNat ((bs.drop 21).take 1))
    burstSpacing := BitVec.ofNat 16 (beNat ((bs.drop 22).take 2))
    burstQuiet := BitVec.ofNat 16 (beNat ((bs.drop 24).take 2))
    intervalLen := BitVec.ofNat 16 (beNat ((bs.drop 26).take 2))
    capPre := BitVec.ofNat 16 (beNat ((bs.drop 28).take 2))
    capPost := BitVec.ofNat 16 (beNat ((bs.drop 30).take 2))
    capExt := BitVec.ofNat 8 (beNat ((bs.drop 32).take 1))
    capHold := BitVec.ofNat 8 (beNat ((bs.drop 33).take 1))
    recurThr := BitVec.ofNat 8 (beNat ((bs.drop 34).take 1))
    recurAge := BitVec.ofNat 16 (beNat ((bs.drop 35).take 2))
    retention := BitVec.ofNat 16 (beNat ((bs.drop 37).take 2))
    enrolled := BitVec.ofNat 8 (beNat ((bs.drop 39).take 1))
    commitWeight := BitVec.ofNat 8 (beNat ((bs.drop 40).take 1))
    noteTimeout := BitVec.ofNat 8 (beNat ((bs.drop 41).take 1))

/-! ## The checks (R157, R158) -/

/-- Whether `n` lies in a..b. -/
def inRange (a b n : Nat) : Bool := decide (a ≤ n) && decide (n ≤ b)

/-- The range checks in ascending order of index: each index with whether its field is in range (R157). -/
def Profile.rangeChecks (p : Profile) : List (Nat × Bool) :=
  [ (1, inRange 10000 60000 p.udecl.toNat),
    (2, p.nominalHz.toNat == 50 || p.nominalHz.toNat == 60),
    (3, inRange 1 7 p.channels.toNat),
    (4, inRange 1 3 p.reference.toNat),
    (5, inRange 1 65535 p.gain1.toNat),
    (6, inRange 1 65535 p.gain2.toNat),
    (7, inRange 1 65535 p.gain3.toNat),
    (8, inRange 0 4095 p.crossHyst.toNat),
    (9, inRange 500 950 p.dipThr.toNat),
    (10, inRange 1050 1500 p.swellThr.toNat),
    (11, inRange 10 100 p.intrThr.toNat),
    (12, inRange 5 50 p.hyst.toNat),
    (13, inRange 10 80 p.rvcThr.toNat),
    (14, inRange 32 128 p.rvcWindow.toNat),
    (15, inRange 4 64 p.burstRun.toNat),
    (16, inRange 10 6000 p.burstSpacing.toNat),
    (17, inRange 100 60000 p.burstQuiet.toNat),
    (18, inRange 60 3600 p.intervalLen.toNat && p.intervalLen.toNat % 60 == 0),
    (19, inRange 256 2048 p.capPre.toNat && p.capPre.toNat % 256 == 0),
    (20, inRange 256 3840 p.capPost.toNat && p.capPost.toNat % 256 == 0),
    (21, inRange 0 3 p.capExt.toNat),
    (22, inRange 1 168 p.capHold.toNat),
    (23, inRange 2 255 p.recurThr.toNat),
    (24, inRange 1 720 p.recurAge.toNat),
    (25, inRange 7 400 p.retention.toNat),
    (26, inRange 1 3 p.enrolled.toNat),
    (27, p.commitWeight.toNat == 0 || p.commitWeight.toNat == 4 || p.commitWeight.toNat == 8 || p.commitWeight.toNat == 16),
    (28, inRange 1 60 p.noteTimeout.toNat) ]

/-- The cross-field checks in order: the index each reports with whether it holds (R158). -/
def Profile.crossChecks (p : Profile) : List (Nat × Bool) :=
  [ (4, p.inUse.get p.refChan),
    (11, decide (p.intrThr.toNat + p.hyst.toNat < p.dipThr.toNat)),
    (9, decide (p.dipThr.toNat + p.hyst.toNat < 1000)),
    (10, decide (1000 + p.hyst.toNat < p.swellThr.toNat)),
    (13, decide (p.rvcThr.toNat + p.dipThr.toNat < 1000)),
    (13, decide (p.rvcThr.toNat + 1000 < p.swellThr.toNat)),
    (16, decide (p.burstSpacing.toNat ≤ p.burstQuiet.toNat)),
    (20, decide (p.capPre.toNat + p.capPost.toNat ≤ 4096)) ]

/-- The first failing check of a list, with its order number counted from `k`. -/
def firstFailure : Nat → List (Nat × Bool) → Option (Nat × Nat)
  | _, [] => none
  | k, (index, good) :: rest => if good then firstFailure (k + 1) rest else some (index, k)

/-- What INVALID_PROFILE reports: the index of the offending field and a check code, 0 for a range failure or the order number
of the cross-field check; absent when every check passes (R158). -/
def Profile.failure (p : Profile) : Option (Nat × Nat) :=
  match firstFailure 1 p.rangeChecks with
  | some (index, _) => some (index, 0)
  | none => firstFailure 1 p.crossChecks

/-- Whether a profile passes both sets of checks. -/
def Profile.valid (p : Profile) : Bool := p.failure.isNone

/-! ## Request kinds (spec 11.9) -/

/-- The size R172 checks for a request kind: absent for an unknown kind, else whether a payload length is the kind's. -/
def requestSize (kind length : Nat) : Option Bool :=
  match kind with
  | 0x01 => some (length == 0)
  | 0x02 => some (length == 1)
  | 0x03 => some (length == 6)
  | 0x04 => some (length == 1)
  | 0x05 => some (length == 4)
  | 0x06 => some (length == 0)
  | 0x07 => some (length == 7)
  | 0x08 => some (length == 4)
  | 0x09 => some (length == 1)
  | 0x0A => some (length == 44)
  | 0x0B => some (length == 1)
  | 0x0C => some (length == 0)
  | 0x0D => some (length == 9)
  | 0x0E => some (length == 1)
  | 0x0F => some (decide (length ≤ 32))
  | 0x10 => some (length == 0)
  | 0x11 => some (length == 0)
  | 0x12 => some (length == 0)
  | 0x13 => some (length == 4)
  | 0x14 => some (length == 2)
  | 0x15 => some (length == 0)
  | 0x16 => some (length == 1)
  | 0x17 => some (length == 0)
  | _ => none

end Sys2Proof
end

