-- ==== Sys2Proof/Machine/Records.lean ====
section
/-! DEFINITION. Journal records and settings entries as bytes (spec 11.9), and what the start-up scan reads back from a slot. -/

namespace Sys2Proof.Machine

/-! ## Kinds and classes -/

/-- The kind of a payload (R134). -/
def Payload.kind : Payload → Kind
  | .restart _ _ _ => .restart
  | .supplyFail _ _ _ _ => .supplyFail
  | .profile _ _ _ _ _ _ => .profile
  | .release _ _ _ => .release
  | .timeMark _ _ => .timeMark
  | .note _ _ _ _ _ => .note
  | .event _ => .event
  | .burst _ => .burst
  | .capture _ => .capture
  | .interval _ => .interval
  | .acqGap _ _ _ => .acqGap
  | .tracking _ _ _ _ => .tracking
  | .overflow _ => .overflow

/-- Port class: NOTE, TIME_MARK and RELEASE (R115). -/
def Payload.isPortClass (p : Payload) : Bool :=
  match p.kind with
  | .note | .timeMark | .release => true
  | _ => false

/-- The kind's code in the header (spec 11.9). -/
def Kind.code : Kind → Nat
  | .restart => 0x01
  | .supplyFail => 0x02
  | .profile => 0x03
  | .release => 0x04
  | .timeMark => 0x05
  | .note => 0x06
  | .event => 0x07
  | .burst => 0x08
  | .capture => 0x09
  | .interval => 0x0A
  | .acqGap => 0x0B
  | .tracking => 0x0C
  | .overflow => 0x0D

/-! ## Payloads (spec 11.9) -/

/-- Sub-type code of an EVENT payload. -/
def SubType.code : SubType → Nat
  | .dip => 1
  | .swell => 2
  | .interruption => 3
  | .rvc => 4

/-- Type code of a BURST payload. -/
def foldCode : FoldType → Nat
  | .dip => 1
  | .swell => 2
  | .rvc => 4

/-- Closure code of a BURST payload. -/
def FoldClosure.code : FoldClosure → Nat
  | .quiet => 1
  | .profile => 2
  | .supplyFail => 3

/-- Trigger code of a CAPTURE payload. -/
def Trigger.code : Trigger → Nat
  | .dip => 1
  | .swell => 2
  | .interruption => 3
  | .manual => 5

/-- Cause code of a RESTART payload. -/
def RestartCause.code : RestartCause → Nat
  | .powerOn => 1
  | .resetPin => 2
  | .supplyRecovered => 3

/-- Closure code of a NOTE payload. -/
def NoteClosure.code : NoteClosure → Nat
  | .ended => 1
  | .timeout => 2
  | .superseded => 3
  | .portReset => 4

/-- Cause code of an ACQ_GAP payload. -/
def GapCause.code : GapCause → Nat
  | .jump => 1
  | .silence => 2

/-- Cause code of a TRACKING payload. -/
def TrackingCause.code : TrackingCause → Nat
  | .freeRunEntered => 1
  | .lockRegained => 2
  | .referenceReturned => 3

/-- An optional field as it is sent: zeros when absent (spec 11.9). -/
def optField (n : Option Nat) : Nat := n.getD 0

/-- EVENT payload (41 bytes). -/
def EventRecord.encode (e : EventRecord) : List Byte :=
  beBytes 1 e.subType.code ++
  beBytes 1 (flagBits [e.stop.isSome, e.uss.isSome, e.linked.isSome, e.serial.isSome, e.recurrence.isSome]) ++
  beBytes 4 e.number ++ beBytes 6 e.start ++ beBytes 6 (optField e.stop) ++ beBytes 4 e.halfCycles ++
  beBytes 2 e.extreme ++ beBytes 1 e.extremeChan.number ++ beBytes 2 (optField e.uss) ++ beBytes 1 e.chans.code ++
  beBytes 2 e.flags.code ++ beBytes 4 (optField e.linked) ++ beBytes 4 (optField e.serial) ++
  beBytes 1 (optField (e.recurrence.map Prod.fst)) ++ beBytes 2 (optField (e.recurrence.map Prod.snd))

/-- BURST payload (32 bytes). -/
def BurstRecord.encode (b : BurstRecord) : List Byte :=
  beBytes 1 (foldCode b.type) ++ beBytes 1 (flagBits [b.summary.lastEnd.isSome]) ++ beBytes 4 b.number ++
  beBytes 4 b.summary.count ++ beBytes 6 b.summary.firstStart ++ beBytes 6 (optField b.summary.lastEnd) ++
  beBytes 4 b.summary.total ++ beBytes 2 b.summary.extreme ++ beBytes 1 b.summary.extremeChan.number ++
  beBytes 1 b.summary.chans.code ++ beBytes 1 b.summary.flags.code ++ beBytes 1 b.closure.code

/-- CAPTURE payload (23 bytes). -/
def CaptureRecord.encode (c : CaptureRecord) : List Byte :=
  beBytes 4 c.serial ++ beBytes 1 c.trigger.code ++ beBytes 1 (flagBits [c.event.isSome]) ++ beBytes 4 (optField c.event) ++
  beBytes 1 c.origin.code ++ beBytes 6 c.triggerFrame ++ beBytes 2 c.preCount ++ beBytes 2 c.total ++ beBytes 1 c.slots ++
  beBytes 1 (flagBits [c.truncated])

/-- One 6-byte channel block of an INTERVAL payload; zeros when absent. -/
def blockBytes : Option ChannelBlock → List Byte
  | none => beBytes 6 0
  | some b => beBytes 2 b.value ++ beBytes 2 b.low ++ beBytes 2 b.high

/-- INTERVAL payload (42 bytes). -/
def IntervalRecord.encode (i : IntervalRecord) : List Byte :=
  beBytes 4 i.index ++ beBytes 6 i.start ++ beBytes 4 i.halfCycles ++
  beBytes 1 (flagBits [i.blocks.c1.isSome, i.blocks.c2.isSome, i.blocks.c3.isSome, i.frequency.isSome, i.withheld.isSome]) ++
  beBytes 1 i.flags.code ++ beBytes 4 (optField i.frequency) ++ beBytes 4 (optField i.withheld) ++
  blockBytes i.blocks.c1 ++ blockBytes i.blocks.c2 ++ blockBytes i.blocks.c3

/-- OVERFLOW payload (28 bytes). -/
def Overflow.encode (o : Overflow) : List Byte :=
  beBytes 2 o.restart ++ beBytes 2 o.supplyFail ++ beBytes 2 o.profile ++ beBytes 2 o.event ++ beBytes 2 o.burst ++
  beBytes 2 o.capture ++ beBytes 2 o.acqGap ++ beBytes 2 o.tracking ++ beBytes 6 o.first ++ beBytes 6 o.last

/-- The bytes of a payload. -/
def Payload.encode : Payload → List Byte
  | .restart cause prevLast number =>
    beBytes 1 cause.code ++ beBytes 1 (flagBits [prevLast.isSome]) ++ beBytes 4 (optField prevLast) ++ beBytes 4 number
  | .supplyFail events priority portClass bulk =>
    beBytes 1 events.length ++ beBytes 4 (events.getD 0 0) ++ beBytes 4 (events.getD 1 0) ++ beBytes 4 (events.getD 2 0) ++
    beBytes 1 priority ++ beBytes 1 portClass ++ beBytes 1 bulk
  | .profile number proposer agreeing forced isDefault contents =>
    beBytes 4 number ++ beBytes 1 (optField (proposer.map Party.code)) ++ beBytes 1 (PartySet.code agreeing) ++
    beBytes 1 (flagBits [forced, isDefault]) ++ contents.encode
  | .release party newMark prevMark => beBytes 1 party.code ++ beBytes 4 newMark ++ beBytes 4 prevMark
  | .timeMark stated quality => beBytes 8 stated.toNat ++ [quality]
  | .note topic beginFrame closure truncated text =>
    [topic] ++ beBytes 6 beginFrame ++ beBytes 1 closure.code ++ beBytes 1 (flagBits [truncated]) ++ beBytes 1 text.length ++ text
  | .event e => e.encode
  | .burst b => b.encode
  | .capture c => c.encode
  | .interval i => i.encode
  | .acqGap first count cause => beBytes 6 first ++ beBytes 6 count ++ beBytes 1 cause.code
  | .tracking cause old new count =>
    beBytes 1 cause.code ++ beBytes 1 old.number ++ beBytes 1 new.number ++ beBytes 2 count
  | .overflow o => o.encode

/-! ## Records -/

/-- A count of recorded seconds as its 32-bit field holds it; beyond 32 bits the spec states no value (log entry 19, DESIGN CHOICE). -/
def secondsField (n : Nat) : Nat := if n ≤ max32 then n else (Config.secondsBeyond n).toNat

/-- The 20 header bytes of a record (spec 11.9). -/
def Rec.header (seq : Nat) (r : Rec) : List Byte :=
  beBytes 4 seq ++ beBytes 1 r.payload.kind.code ++ beBytes 1 r.origin.code ++ beBytes 1 r.payload.encode.length ++
  beBytes 1 r.flags.code ++ beBytes 2 r.epoch ++ beBytes 6 r.frame ++ beBytes 4 (secondsField r.seconds)

/-- A record's bytes with its sequence number: header, payload, check value (R134). -/
def Rec.encode (seq : Nat) (r : Rec) : List Byte := withCheck (r.header seq ++ r.payload.encode)

/-- What the scan takes from a valid record: its sequence number, epoch and recorded seconds (R152, R154). -/
structure Found where
  seq : Nat
  epoch : Nat
  seconds : Nat
  deriving DecidableEq, Repr

/-- The bytes a stored record fills: 22 and its payload length (spec 11.9). -/
def recordLength (bs : List Byte) : Nat := 22 + (bs.getD 6 0#8).toNat

/-- A slot's record, when its check value holds over the header and payload (R131). -/
def readRecord (bs : List Byte) : Option Found :=
  if (bs.getD 6 0#8).toNat ≤ 106 ∧ checkHolds (bs.take (recordLength bs)) = true then
    some ⟨beNat (bs.take 4), beNat ((bs.drop 8).take 2), beNat ((bs.drop 16).take 4)⟩
  else none

/-! ## Settings entries -/

/-- A settings entry's content bytes (spec 11.9). -/
def Setting.content : Setting → List Byte
  | .profile number contents => beBytes 4 number ++ contents.encode
  | .epoch number base => beBytes 2 number ++ beBytes 4 (secondsField base)
  | .mark party m => beBytes 1 party.code ++ beBytes 4 m

/-- A settings entry's kind code (spec 11.9). -/
def Setting.kindCode : Setting → Nat
  | .profile _ _ => 1
  | .epoch _ _ => 2
  | .mark _ _ => 3

/-- A settings entry's bytes with its settings sequence number (R148). -/
def Setting.encode (seq : Nat) (e : Setting) : List Byte :=
  withCheck (beBytes 4 seq ++ beBytes 1 e.kindCode ++ e.content)

/-- The content length of a settings kind. -/
def settingLength : Nat → Option Nat
  | 1 => some 46
  | 2 => some 6
  | 3 => some 5
  | _ => none

/-- The content of a settings entry; a MARK of no enrollable party is no entry. -/
def readContent (kind : Nat) (bs : List Byte) : Option Setting :=
  match kind with
  | 1 => some (.profile (beNat (bs.take 4)) (Profile.decode (bs.drop 4)))
  | 2 => some (.epoch (beNat (bs.take 2)) (beNat ((bs.drop 2).take 4)))
  | 3 =>
    match beNat (bs.take 1) with
    | 1 => some (.mark .supply (beNat ((bs.drop 1).take 4)))
    | 2 => some (.mark .premises (beNat ((bs.drop 1).take 4)))
    | _ => none
  | _ => none

/-- A slot's settings entry with its settings sequence, when its check value holds (R151). -/
def readSetting (bs : List Byte) : Option (Nat × Setting) :=
  let kind := (bs.getD 4 0#8).toNat
  match settingLength kind with
  | none => none
  | some n =>
    if checkHolds (bs.take (7 + n)) then
      (readContent kind ((bs.drop 5).take n)).map (fun e => (beNat (bs.take 4), e))
    else none

end Sys2Proof.Machine
end

