-- ==== Sys2Proof/Machine/Memory.lean ====
section
/-! DEFINITION. The nonvolatile array as an addressed memory of bytes in one canonical form, and the operations on it: read, program a slot, erase a sector, and what an operation that went wrong leaves. -/

namespace Sys2Proof.Machine

/-- The nonvolatile array: 130 sectors × 64 slots × 128 bytes, listed by address (spec 00, electrical summary). -/
abbrev Memory := List Host.Cell

/-- What an unlisted address reads as: the byte an erase leaves, FF hex (R131, spec 11.9). -/
def erasedByte : Byte := 0xFF#8

/-- Bytes of a slot. -/
def slotBytes : Nat := 128

/-- Slots of a sector. -/
def sectorSlots : Nat := 64

/-- Ring sectors; sectors 128 and 129 are the settings area. -/
def ringSectors : Nat := 128

/-- Sectors of the whole array. -/
def allSectors : Nat := 130

/-- The address of a slot's first byte. -/
def slotAddress (sector slot : Nat) : Nat := (sector * sectorSlots + slot) * slotBytes

/-- The canonical form: addresses strictly rising, and no entry equal to what an unlisted address reads as. -/
def Memory.wf : Memory → Bool
  | [] => true
  | [c] => decide (c.2 ≠ erasedByte)
  | c :: d :: m => decide (c.2 ≠ erasedByte) && decide (c.1 < d.1) && Memory.wf (d :: m)

/-- The byte at an address. -/
def Memory.read : Memory → Nat → Byte
  | [], _ => erasedByte
  | c :: m, a => if c.1 = a then c.2 else Memory.read m a

/-- A byte written; writing the erased byte removes the entry. -/
def Memory.write : Memory → Nat → Byte → Memory
  | [], a, b => if b = erasedByte then [] else [(a, b)]
  | c :: m, a, b =>
    if a < c.1 then (if b = erasedByte then c :: m else (a, b) :: c :: m)
    else if a = c.1 then (if b = erasedByte then m else (a, b) :: m)
    else c :: Memory.write m a b

/-- Bytes written at rising addresses from `a`. -/
def Memory.writeAll : Memory → Nat → List Byte → Memory
  | m, _, [] => m
  | m, a, b :: bs => Memory.writeAll (Memory.write m a b) (a + 1) bs

/-- The bytes of an address range. -/
def Memory.readRange (m : Memory) (a n : Nat) : List Byte := (List.range n).map (fun i => Memory.read m (a + i))

/-- The 128 bytes of a slot. -/
def Memory.readSlot (m : Memory) (sector slot : Nat) : List Byte := Memory.readRange m (slotAddress sector slot) slotBytes

/-- A slot programmed with the bytes intended (R135, R148). -/
def Memory.program (m : Memory) (sector slot : Nat) (bytes : List Byte) : Memory :=
  Memory.writeAll m (slotAddress sector slot) bytes

/-- A sector erased: every byte reads as left by an erase (R131). -/
def Memory.erase (m : Memory) (sector : Nat) : Memory :=
  m.filter (fun c => decide (c.1 < slotAddress sector 0) || decide (slotAddress (sector + 1) 0 ≤ c.1))

/-- `n` free bytes (log entry 6, DESIGN CHOICE). -/
def freeBytes (k n : Nat) : List Byte := (List.range n).map (Config.freeByte k)

/-- What a program whose read-back differs leaves (R136, R148): free bytes, which are neither the bytes intended nor all erased. -/
def garbledBytes (k : Nat) (intended : List Byte) : List Byte :=
  let free := freeBytes k intended.length
  if free = intended ∨ free.all (fun b => decide (b = erasedByte)) then
    intended.set 4 ((intended.getD 4 0#8) ^^^ 0x40#8)
  else free

/-- A slot after a program whose read-back differs. -/
def Memory.garble (m : Memory) (sector slot k : Nat) (intended : List Byte) : Memory :=
  Memory.program m sector slot (garbledBytes k intended)

/-- A slot whose program of `n` bytes was cut short (R133, R155): those bytes are free (log entry 6, DESIGN CHOICE). -/
def Memory.tearSlot (m : Memory) (sector slot k n : Nat) : Memory :=
  Memory.program m sector slot (freeBytes k n)

/-- A sector whose erase was cut short (R153): its bytes are free (log entry 6, DESIGN CHOICE). -/
def Memory.tearSector (m : Memory) (sector k : Nat) : Memory :=
  Memory.writeAll m (slotAddress sector 0) (freeBytes k (sectorSlots * slotBytes))

end Sys2Proof.Machine
end

