-- ==== Sys2Proof/Machine/ResetValues.lean ====
section
/-! DEFINITION. The level set (R31) and the values every block takes after power-on, after the RESET input and after a recovered supply. -/

namespace Sys2Proof.Machine

/-- A permille setting of Udecl as a level in cV (R31). -/
def permilleLevel (p : Profile) (permille : Nat) : Nat := p.udecl.toNat * permille / 1000

/-- The level set of a profile; each level is computed from its own permille sum (R31). -/
def levelsOf (p : Profile) : Levels where
  dipStart := permilleLevel p p.dipThr.toNat
  dipEnd := permilleLevel p (p.dipThr.toNat + p.hyst.toNat)
  swellStart := permilleLevel p p.swellThr.toNat
  swellEnd := permilleLevel p (p.swellThr.toNat - p.hyst.toNat)
  intrStart := permilleLevel p p.intrThr.toNat
  intrEnd := permilleLevel p (p.intrThr.toNat + p.hyst.toNat)
  rvcBand := permilleLevel p p.rvcThr.toNat

/-- R3: ABSENT, nothing delivered, counts 0, silence timer stopped. That no last frame time is held until the first accepted frame is
log entry 5 (DESIGN CHOICE). -/
def resetReceiver : Receiver where
  acq := .absent
  lastSeq := none
  lastSamples := none
  frameIndex := 0
  delivered := false
  epoch := 0
  lastFrameTime := none
  checkFailed := 0
  duplicates := 0
  substituted := 0
  failureFrame := none
  assembling := []

/-- R12: RESYNC with the profile reference as the active reference. -/
def resetTracker (p : Profile) : Tracker where
  mode := .resync
  active := p.refChan
  openHalf := none
  framesWaited := 0
  arm := Tri.all .none
  crossed := ChanSet.empty
  lastCrossed := ChanSet.empty
  lengthRun := 0
  spellCount := 0
  spellRef := p.refChan
  refRun := 0
  ret := .none

/-- R30: accumulators and counts 0, previous valid no, no last value set, the level set of the profile in force. -/
def resetEngine (p : Profile) : Engine where
  openSum := Tri.all 0
  openCount := 0
  openClip := Tri.all 0
  prevSum := Tri.all 0
  prevCount := 0
  prevClip := Tri.all 0
  prevValid := Tri.all false
  levels := levelsOf p
  last := none

/-- No flag set. -/
def noFlags : ChanFlags := ⟨false, false, false⟩

/-- No running flag set. -/
def noRunFlags : RunFlags := ⟨false, false, false⟩

/-- R34: flags clear, machines IDLE, next event number 1. -/
def resetClassifier : Classifier where
  flags := Tri.all noFlags
  dip := none
  swell := none
  interruption := none
  nextEvent := 1

/-- R58: STEADY_WAIT, windows empty, the candidate's fields cleared. -/
def resetRvc : Rvc where
  mode := .steadyWait
  window := []
  preMean := Tri.all 0
  uMax := 0
  uMaxChan := .c1
  start := 0
  count := 0
  affected := ChanSet.empty
  flags := noRunFlags

/-- An empty fold summary: R77 shows it of an OPEN fold that has merged no event and gives it no first start, extreme or channel; they are
0, 0 and channel 1 (log entry 5, DESIGN CHOICE). -/
def emptySummary : Summary where
  count := 0
  firstStart := 0
  lastEnd := none
  extreme := 0
  extremeChan := .c1
  chans := ChanSet.empty
  total := 0
  flags := ⟨false, false, false, false, false⟩

/-- R67: CLOSED, run count 0, since last end NONE, start distance NONE, no burst number, empty summary. -/
def resetFold : Fold where
  isOpen := false
  runCount := 0
  sinceEnd := none
  startDistance := none
  burst := none
  summary := emptySummary

/-- An open interval at grid position `k` of profile `p` with the given start frame and flags and nothing assigned. -/
def openInterval (p : Profile) (k start : Nat) (flags : IntervalFlags) (lastMissing : Option Nat) : Aggregator where
  index := k
  start := start
  stop := (k + 1) * p.intervalFrames
  halfCycles := 0
  sumS := Tri.all 0
  sumN := Tri.all 0
  low := Tri.all none
  high := Tri.all none
  lockedH := 0
  lockedN := 0
  flags := flags
  lastMissing := lastMissing

/-- R78: interval 0 open from frame 0, *short*, nothing missing. -/
def resetAggregator (p : Profile) : Aggregator := openInterval p 0 0 ⟨false, false, false, false, true⟩ none

/-- R90: every entry invalid, revision 0. -/
def resetRecurrence : Recurrence where
  entries := List.replicate 64 none
  revision := 0

/-- R101, R102: ring empty, every slot FREE, next serial 1. -/
def resetCapture : Capture where
  ring := []
  slots := List.replicate 4 none
  nextSerial := 1
  resumed := none

/-- R116: queues empty, counts 0, no summary, no record in hand. -/
def resetCommit : Commit where
  priority := []
  bulk := []
  credit := 0
  overflow := none
  withheld := 0
  inHand := none

/-- R127: IDLE, no request standing, last granted FIELD. -/
def resetArray : ArrayState where
  op := none
  lastGranted := .port .field
  choice := none
  chosenRelease := none

/-- An ERASED sector's entry. -/
def erasedSector : Sector := ⟨.erased, [], []⟩

/-- R132: STARTING; failure count 0, no fault, no settings work. All else is rebuilt by the scan. -/
def resetJournal : Journal where
  state := .starting
  sectors := List.replicate 128 erasedSector
  openSector := 0
  writeSlot := 0
  newest := none
  markSupply := none
  markPremises := none
  failureCount := 0
  faultCause := none
  settingsActive := 128
  settingsSlot := 0
  nextSettings := 0
  curProfile := none
  curEpoch := none
  curMarkSupply := none
  curMarkPremises := none
  pendingSettings := []
  compaction := none
  epochBase := 0

/-- R156: no proposal, last proposal number 0, adoption IDLE. The profile itself is recovered by the scan. -/
def resetProfileUnit : ProfileUnit where
  inForce := Profile.default
  number := 1
  proposal := none
  lastProposal := 0
  deferral := none

/-- The default tallies of R193. -/
def resetTally (s : Selection) : Tally := ⟨s, 0⟩

/-- R171, R188, R193: no request, empty stream, note IDLE, nothing pending, INTERVAL_CLOSED (kind 12, bit 11) masked, every level
HIGH, ATTENTION deasserted, tallies 0 under their defaults. -/
def resetPort : Port where
  inProgress := none
  response := none
  ready := true
  cursor := 0
  buffer := []
  streaming := false
  burst := .absent
  overtaken := false
  note := .idle
  notices := []
  masked := 0x0800
  lowLevel := 0
  attention := false
  tallyA := resetTally .dips
  tallyB := resetTally .interruptions
  tallyC := resetTally .recordsWithheld

/-- Every block at its reset values, with the restart's cause and the count of free values used. -/
def resetPart (cause : RestartCause) (freeCount : Nat) : Part where
  localTime := 0
  failing := false
  restartCause := cause
  receiver := resetReceiver
  tracker := resetTracker Profile.default
  engine := resetEngine Profile.default
  classifier := resetClassifier
  rvc := resetRvc
  folds := ⟨resetFold, resetFold, resetFold⟩
  aggregator := resetAggregator Profile.default
  recurrence := resetRecurrence
  capture := resetCapture
  commit := resetCommit
  array := resetArray
  journal := resetJournal
  profile := resetProfileUnit
  ports := PerParty.all resetPort
  freeCount := freeCount

end Sys2Proof.Machine
end

