-- ==== Sys2Proof/Machine/State.lean ====
section
/-! DEFINITION. The machine's state: the queue of waiting commands, the board's pins, the nonvolatile array and the part. Fault and refusal reasons. -/

namespace Sys2Proof.Machine

/-- The levels the board holds on the part: power, RESET_N (true is high, not held in reset) and SUPPLY_FAIL (true is high). -/
structure Pins where
  power : Bool
  resetHigh : Bool
  supplyFail : Bool
  deriving DecidableEq, Repr

/-- The whole machine. -/
structure State where
  /-- commands waiting, first in first out -/
  pending : List Instr
  pins : Pins
  /-- the nonvolatile array, which keeps its contents through every kind of reset (R132) -/
  memory : List Host.Cell
  /-- SUPPLY-FAIL went low after it was taken; the restart of R197 is waited for -/
  recovering : Bool
  /-- every volatile block -/
  part : Part
  deriving DecidableEq, Repr

/-- The part has no fault that stops it: FAULTED is a state of the journal (R137). No command raises a fault, which is safe:
every outcome the spec describes is a next state. -/
inductive Fault
  deriving DecidableEq, Repr

/-- Why a step may be refused. -/
inductive Refusal
  /-- Raised by an arm of exec whose command has no meaning yet; safe, since nothing is claimed of such a command. No arm uses it. -/
  | notModelled (mnemonic : String)
  deriving DecidableEq, Repr

/-- The machine after reset: power applied to a part as manufactured, RESET_N high, SUPPLY_FAIL low, every block at its reset
values and the start-up scan of the restart with cause POWER_ON about to run (R198, R199; log entry 4, DESIGN CHOICE). -/
def State.reset : State where
  pending := []
  pins := ⟨true, true, false⟩
  memory := []
  recovering := false
  part := resetPart .powerOn 0

end Sys2Proof.Machine
end

