-- ==== Sys2Proof/Machine/Ops.lean ====
section
/-! DEFINITION. The operations every block shares: what "now" is, building a record, raising a notice, entering the queues, answering a request, and taking a free value. -/

namespace Sys2Proof.Machine

/-! ## Parts of the part -/

/-- One port replaced by a function of itself. -/
def Part.mapPort (p : Part) (q : Party) (f : Port → Port) : Part := { p with ports := p.ports.set q (f (p.ports.get q)) }

/-- Every port replaced by a function of itself. -/
def Part.mapPorts (p : Part) (f : Port → Port) : Part := { p with ports := p.ports.map f }

/-- The part is recording: the start-up scan has ended. -/
def Part.isStarting (p : Part) : Bool := decide (p.journal.state = .starting)

/-- The journal is FAULTED. -/
def Part.isFaulted (p : Part) : Bool := decide (p.journal.state = .faulted)

/-- The journal is BLOCKED. -/
def Part.isBlocked (p : Part) : Bool := decide (p.journal.state = .blocked)

/-- An erase of the ring is called for or in progress (R140, R141). -/
def Part.isErasing (p : Part) : Bool := decide (p.journal.state = .erasing)

/-- The in-use channels of the profile in force. -/
def Part.inUse (p : Part) : ChanSet := p.profile.inForce.inUse

/-- Take the next free choice between two orders (log entry 7, DESIGN CHOICE). -/
def Part.freeOrder (p : Part) : Bool × Part := (Config.openOrder p.freeCount, { p with freeCount := p.freeCount + 1 })

/-! ## Time (R10) -/

/-- The frame index that dates what happens now: the failure frame once SUPPLY-FAIL is taken, else the most recently delivered
frame, or 0 before any (R9, R10). -/
def Part.nowFrame (p : Part) : Nat := p.receiver.failureFrame.getD p.receiver.frameIndex

/-- Recorded seconds at a frame of the current epoch (R10). -/
def Part.secondsAt (p : Part) (frame : Nat) : Nat := p.journal.epochBase + frame / 10240

/-- Recorded seconds now. -/
def Part.nowSeconds (p : Part) : Nat := p.secondsAt p.nowFrame

/-- Header flags, from the state of the part at this moment (R134). -/
def Part.headerFlags (p : Part) : HeaderFlags where
  acqAbsent := decide (p.receiver.acq = .absent)
  acqLost := decide (p.receiver.acq = .lost)
  supplyFailing := p.failing

/-- A record built now, dated with `frame` (R10, R134). -/
def Part.buildRec (p : Part) (origin : Origin) (frame : Nat) (payload : Payload) : Rec where
  origin := origin
  flags := p.headerFlags
  epoch := p.receiver.epoch
  frame := frame
  seconds := p.secondsAt frame
  payload := payload

/-! ## Notices (R187 to R191) -/

/-- The kind's number, 1..12. -/
def NoticeKind.number : NoticeKind → Nat
  | .journalBlocked => 1
  | .recordsExpired => 2
  | .recordsWithheld => 3
  | .eventRecorded => 4
  | .captureReady => 5
  | .captureSlotsFull => 6
  | .proposalPending => 7
  | .profileAdopted => 8
  | .proposalLapsed => 9
  | .recurrenceThreshold => 10
  | .acquisitionLost => 11
  | .intervalClosed => 12

/-- Kinds 1, 2 and 3 are unmaskable (R187). -/
def NoticeKind.maskable (k : NoticeKind) : Bool := decide (4 ≤ k.number)

/-- Whether a kind is masked at a port. -/
def Port.isMasked (t : Port) (k : NoticeKind) : Bool := k.maskable && t.masked.getLsbD (k.number - 1)

/-- The pending notice of a kind. -/
def Port.pendingNotice (t : Port) (k : NoticeKind) : Option Notice := t.notices.find? (fun n => decide (n.kind = k))

/-- An occurrence collapsed into the pending notice of its kind (R189). -/
def collapseInto (k : NoticeKind) (epoch frame : Nat) (d : Detail) (n : Notice) : Notice :=
  if n.kind = k then { n with count := satAdd 65535 n.count 1, epoch := epoch, frame := frame, detail := d } else n

/-- An occurrence reaches a port: it becomes pending, asserting ATTENTION unless masked, or it collapses (R189, R191). -/
def Port.raise (t : Port) (k : NoticeKind) (epoch frame : Nat) (d : Detail) : Port :=
  if (t.pendingNotice k).isSome then { t with notices := t.notices.map (collapseInto k epoch frame d) }
  else { t with notices := t.notices ++ [⟨k, 1, epoch, frame, d⟩], attention := t.attention || !t.isMasked k }

/-- A notice raised at one port (R189). -/
def Part.raiseAt (p : Part) (q : Party) (k : NoticeKind) (d : Detail) : Part :=
  p.mapPort q (fun t => t.raise k p.receiver.epoch p.nowFrame d)

/-- A notice raised at all three ports (R189). -/
def Part.raiseAll (p : Part) (k : NoticeKind) (d : Detail) : Part :=
  p.mapPorts (fun t => t.raise k p.receiver.epoch p.nowFrame d)

/-! ## The queues (spec 08) -/

/-- Entries of PRIORITY (R117). -/
def priorityRoom : Nat := 24

/-- The occupancy below which port-class records enter (R120). -/
def portShare : Nat := 16

/-- Entries of BULK (R123). -/
def bulkRoom : Nat := 8

/-- PRIORITY entries holding port-class records (spec 08, section 8.1). -/
def Commit.portClass (c : Commit) : Nat := c.priority.countP (fun r => r.payload.isPortClass)

/-- A new overflow summary for a record at `frame` (R118). -/
def newOverflow (frame : Nat) : Overflow := ⟨0, 0, 0, 0, 0, 0, 0, 0, frame, frame⟩

/-- A withheld record counted under its kind (R118); the kinds that are never withheld have no count. -/
def Overflow.add (o : Overflow) (k : Kind) (frame : Nat) : Overflow :=
  let o := { o with last := frame }
  match k with
  | .restart => { o with restart := satAdd 65535 o.restart 1 }
  | .supplyFail => { o with supplyFail := satAdd 65535 o.supplyFail 1 }
  | .profile => { o with profile := satAdd 65535 o.profile 1 }
  | .event => { o with event := satAdd 65535 o.event 1 }
  | .burst => { o with burst := satAdd 65535 o.burst 1 }
  | .capture => { o with capture := satAdd 65535 o.capture 1 }
  | .acqGap => { o with acqGap := satAdd 65535 o.acqGap 1 }
  | .tracking => { o with tracking := satAdd 65535 o.tracking 1 }
  | .release | .timeMark | .note | .interval | .overflow => o

/-- A recorder-class record withheld into the overflow summary; RECORDS_WITHHELD is raised (R118). -/
def Part.withhold (p : Part) (r : Rec) : Part :=
  let o := (p.commit.overflow.getD (newOverflow r.frame)).add r.payload.kind r.frame
  { p with commit := { p.commit with overflow := some o } }.raiseAll .recordsWithheld .none

/-- A record at the newest place of PRIORITY. -/
def Part.pushPriority (p : Part) (r : Rec) : Part := { p with commit := { p.commit with priority := p.commit.priority ++ [r] } }

/-- Whether a recorder-class record enters PRIORITY (R117). -/
def Part.recorderRoom (p : Part) : Bool :=
  decide (p.commit.priority.length < priorityRoom) && p.commit.overflow.isNone && !p.isFaulted

/-- A recorder-class record handed to the commit path (R117, R118). -/
def Part.handRecord (p : Part) (r : Rec) : Part := if p.recorderRoom then p.pushPriority r else p.withhold r

/-- Records handed in order (R116). -/
def Part.handRecords (p : Part) (rs : List Rec) : Part := rs.foldl Part.handRecord p

/-- Whether a port-class record enters PRIORITY by the port share (R120). -/
def Part.portRoom (p : Part) : Bool := decide (p.commit.priority.length < portShare) && !p.isFaulted

/-- A port-class record offered by the port share; absent when it is refused (R120). -/
def Part.offer (p : Part) (r : Rec) : Option Part := if p.portRoom then some (p.pushPriority r) else none

/-- Whether a record is a RELEASE record of a party. -/
def isReleaseOf (q : Party) (r : Rec) : Bool :=
  match r.payload with
  | .release q' _ _ => decide (q' = q)
  | _ => false

/-- The previous mark a RELEASE record carries. -/
def Payload.previousMark : Payload → Nat
  | .release _ _ m => m
  | _ => 0

/-- Whether the waiting RELEASE of a party is the record the writer has chosen and waits to take: the oldest of PRIORITY, unless a
replaced RELEASE is chosen already (R124). -/
def Part.hasChosenRelease (p : Part) (q : Party) : Bool :=
  decide (p.array.choice = some .priority) && p.array.chosenRelease.isNone && p.commit.priority.head?.any (isReleaseOf q)

/-- A RELEASE record offered: it replaces a waiting RELEASE of the same party, whose previous mark it takes over, whatever the
occupancy; else the port share decides (R121). Where the writer had chosen the one replaced, it takes the new one (R124; log entry 40,
DEDUCED). -/
def Part.offerRelease (p : Part) (q : Party) (newMark prevMark : Nat) : Option Part :=
  let build := fun prev => p.buildRec (.party q) p.nowFrame (.release q newMark prev)
  match p.commit.priority.find? (isReleaseOf q) with
  | some waiting =>
    if p.isFaulted then none
    else
      let rest := p.commit.priority.eraseP (isReleaseOf q)
      some { p with
        commit := { p.commit with priority := rest ++ [build waiting.payload.previousMark] }
        array := { p.array with chosenRelease := if p.hasChosenRelease q then some q else p.array.chosenRelease } }
  | none => p.offer (build prevMark)

/-- An INTERVAL record handed to BULK, or dropped and counted (R123). -/
def Part.handInterval (p : Part) (r : Rec) : Part :=
  if p.commit.bulk.length < bulkRoom ∧ p.isBlocked = false ∧ p.isFaulted = false then
    { p with commit := { p.commit with bulk := p.commit.bulk ++ [r], withheld := 0 } }
  else
    { p with commit := { p.commit with withheld := satAdd max32 p.commit.withheld 1 } }.raiseAll .recordsWithheld .none

/-- A port's waiting note, if it has one. -/
def Port.waitingNote (t : Port) : Option Rec :=
  match t.note with
  | .awaiting _ r => some r
  | _ => none

/-- The ports with a waiting note (spec 08, section 8.1). -/
def Part.waitingNotes (p : Part) : PartySet := p.ports.map (fun t => t.waitingNote.isSome)

/-- The first port with a waiting note in the order SUPPLY, PREMISES, FIELD, with its record (R122). -/
def Part.firstWaiting (p : Part) : Option (Party × Rec) :=
  Party.list.findSome? (fun q => (p.ports.get q).waitingNote.map (fun r => (q, r)))

/-- The waiting note that a fall of PRIORITY below 16 calls for, while it has not entered (R122). -/
def Part.dueNote (p : Part) : Option (Party × Rec) := if p.portRoom then p.firstWaiting else none

/-- The waiting note that is due enters PRIORITY and its port's note is IDLE (R122). -/
def Part.admitNote (p : Part) : Part :=
  match p.dueNote with
  | some (q, r) => (p.pushPriority r).mapPort q (fun t => { t with note := .idle })
  | none => p

/-- What follows when an entry of PRIORITY has freed: the overflow summary becomes an OVERFLOW record in that entry (R119), or, when the
occupancy has fallen below 16, one waiting note enters; a free value leaves the entry to a request of the same instant instead, which
then comes before the note (R122; log entry 36, DESIGN CHOICE). -/
def Part.entryFreed (p : Part) : Part :=
  match p.commit.overflow with
  | some o =>
    { p with commit := { p.commit with overflow := none } }.pushPriority (p.buildRec .recorder p.nowFrame (.overflow o))
  | none =>
    if p.dueNote.isSome then (if p.freeOrder.1 then p.freeOrder.2.admitNote else p.freeOrder.2) else p

/-! ## Answering (R172, R173) -/

/-- A response formed in the port's transfer; READY rises (R173). -/
def Part.answer (p : Part) (q : Party) (tag : Byte) (status : Status) (body : Body) : Part :=
  p.mapPort q (fun t => { t with response := some ⟨tag, status, body⟩, ready := true })

/-- A new request frame on a port's link: the transfer before it has ended, so a request still held is abandoned (R173; log entry 10, DEDUCED). -/
def Port.newTransfer (t : Port) : Port :=
  { t with response := none, inProgress := t.inProgress.map (fun r => { r with abandoned := true }) }

/-- A request held: it is in progress and READY stays low (R173). -/
def Part.hold (p : Part) (q : Party) (tag : Byte) (held : Held) : Part :=
  p.mapPort q (fun t => { t with inProgress := some ⟨tag, held, false⟩, ready := false })

/-- The response of a held request formed: it ends the request and is discarded when the request was abandoned (R173). -/
def Part.answerHeld (p : Part) (q : Party) (status : Status) (body : Body) : Part :=
  p.mapPort q (fun t =>
    match t.inProgress with
    | none => t
    | some r =>
      if r.abandoned then { t with inProgress := none, ready := true }
      else { t with inProgress := none, response := some ⟨r.tag, status, body⟩, ready := true })

/-- A link error counted under LINK_ERRORS when tally C selects it (R172, R194). -/
def Port.countLinkError (t : Port) : Port :=
  if t.tallyC.selection = .linkErrors then { t with tallyC := { t.tallyC with value := t.tallyC.value + 1 } } else t

end Sys2Proof.Machine
end

