-- ==== Sys2Proof/Machine/CaptureUnit.lean ====
section
/-! DEFINITION. The capture unit: ring, triggers, filling, chains, release and expiry (spec 07). -/

namespace Sys2Proof.Machine

/-- Frames of the ring and of a slot. -/
def ringRoom : Nat := 2048

/-- Frames of a capture slot. -/
def slotRoom : Nat := 4096

/-- A frame entering the ring; the oldest leaves when it holds 2,048 (R101). -/
def ringPush (ring : List RingFrame) (f : RingFrame) : List RingFrame :=
  if ringRoom ≤ ring.length then ring.drop 1 ++ [f] else ring ++ [f]

/-- The number of the lowest-numbered FREE slot. -/
def Capture.freeSlot (c : Capture) : Option Nat := c.slots.findIdx? Option.isNone

/-- The slot, when it is not FREE. -/
def Capture.slot (c : Capture) (i : Nat) : Option CapSlot := c.slots.getD i none

/-- Whether a slot belongs to the chain of a serial. -/
def hasSerial (serial : Nat) : Option CapSlot → Bool
  | some s => decide (s.serial = serial)
  | none => false

/-- A function applied to every slot of a chain. -/
def Capture.mapChain (c : Capture) (serial : Nat) (f : CapSlot → CapSlot) : Capture :=
  { c with slots := c.slots.map (fun s => if hasSerial serial s then s.map f else s) }

/-- Every slot of a chain FREE. -/
def Capture.freeChain (c : Capture) (serial : Nat) : Capture :=
  { c with slots := c.slots.map (fun s => if hasSerial serial s then none else s) }

/-- The number of slots a chain holds. -/
def Capture.chainLength (c : Capture) (serial : Nat) : Nat := c.slots.countP (hasSerial serial)

/-- Whether slot `i` is the next slot of a slot of the chain. -/
def Capture.isNextOf (c : Capture) (serial i : Nat) : Bool :=
  c.slots.any (fun s => hasSerial serial s && decide (s.bind CapSlot.next = some i))

/-- The first slot of a chain: the one no slot of it points to. -/
def Capture.headSlot (c : Capture) (serial : Nat) : Option Nat :=
  (List.range 4).find? (fun i => hasSerial serial (c.slots.getD i none) && !c.isNextOf serial i)

/-- The slots of a chain in the order they were taken, following the next slots; a chain holds at most four. -/
def Capture.chainFrom (c : Capture) : Nat → Option Nat → List CapSlot
  | 0, _ => []
  | _, none => []
  | k + 1, some i =>
    match c.slot i with
    | none => []
    | some s => s :: c.chainFrom k s.next

/-- A chain's slots, first to last. -/
def Capture.chain (c : Capture) (serial : Nat) : List CapSlot := c.chainFrom 4 (c.headSlot serial)

/-- The frames a chain holds, in order of offset. -/
def Capture.chainFrames (c : Capture) (serial : Nat) : List CapFrame := (c.chain serial).flatMap CapSlot.frames

/-- A serial put in its place in a rising list; one already there is not repeated. -/
def insertSerial (n : Nat) : List Nat → List Nat
  | [] => [n]
  | m :: ms => if n < m then n :: m :: ms else if n = m then m :: ms else m :: insertSerial n ms

/-- The serial of a FILLING slot. -/
def fillingSerial : Option CapSlot → Option Nat
  | some s => if s.held then none else some s.serial
  | none => none

/-- The serials of the FILLING chains in ascending order. -/
def Capture.fillingSerials (c : Capture) : List Nat := (c.slots.filterMap fillingSerial).foldl (fun l n => insertSerial n l) []

/-- The CAPTURE record's payload of a chain (R109). -/
def Capture.record (c : Capture) (serial : Nat) : Option CaptureRecord :=
  match c.chain serial with
  | [] => none
  | s :: rest => some {
      serial := serial, trigger := s.trigger, event := s.event, origin := s.origin, triggerFrame := s.triggerFrame,
      preCount := s.preCount, total := ((s :: rest).map (fun x => x.frames.length)).sum, slots := (s :: rest).length,
      truncated := s.truncated }

/-- A chain's filling ended at frame `hold`: every slot HELD, the hold length that of the profile in force, a truncated chain
marked and its remaining counts 0, and the CAPTURE record handed on (R108, R109). A chain that is not truncated keeps its remaining
counts, at a supply failure too (R114; log entry 37, DESIGN CHOICE). -/
def Part.endFilling (p : Part) (serial hold : Nat) (truncated : Bool) : Part :=
  let cap := p.capture.mapChain serial (fun s =>
    { s with held := true, holdStart := hold, holdLength := p.profile.inForce.capHold.toNat * hourFrames,
             truncated := s.truncated || truncated, remaining := if truncated then 0 else s.remaining })
  let p := { p with capture := cap }
  match cap.record serial with
  | none => p
  | some r => p.handRecord (p.buildRec .recorder hold (.capture r))

/-- Whether the classifier holds an open event that took the chain of a serial (R107: "the triggering event is still open"). -/
def Classifier.holdsChain (c : Classifier) (serial : Nat) : Bool :=
  let holds := fun (e : Option OpenEvent) => decide (e.map OpenEvent.capture = some (.taken serial))
  holds c.dip || holds c.swell || holds c.interruption

/-- A slot filled by a trigger at `triggerFrame` from the ring, with the settings of the profile in force (R105, R106), its hold not yet set
(log entry 42, DESIGN CHOICE). -/
def newSlot (ring : List RingFrame) (pr : Profile) (delivered : Bool) (serial : Nat) (trigger : Trigger) (event : Option Nat)
    (origin : Origin) (triggerFrame : Nat) : CapSlot :=
  let before := ring.filter (fun f => decide (f.index ≤ triggerFrame))
  let pre := min pr.capPre.toNat before.length
  let held := before.drop (before.length - pre)
  let target := pr.capPre.toNat + pr.capPost.toNat
  let after := (ring.filter (fun f => decide (triggerFrame < f.index))).take (target - pre)
  { held := false, serial := serial, trigger := trigger, event := event, origin := origin, triggerFrame := triggerFrame,
    firstFrame := if delivered then triggerFrame + 1 - pre else 0,
    preCount := pre, frames := (held ++ after).map RingFrame.content, remaining := target - pre - after.length,
    allowance := pr.capExt.toNat, target := target, preTrigger := pr.capPre.toNat, next := none, truncated := false, released := PerParty.all false,
    holdStart := 0, holdLength := 0 }

/-- The accepted frame that followed a gap which emptied the ring after the trigger frame was delivered, if one did (R106, second special
case; the latest such gap, log entry 38, DESIGN CHOICE). -/
def Part.gapAfter (p : Part) (triggerFrame : Nat) : Option Nat :=
  p.capture.resumed.filter (fun accepted => p.receiver.delivered && decide (triggerFrame < accepted))

/-- A trigger takes the lowest-numbered FREE slot and draws a serial; absent when no slot is FREE (R102, R103, R105, R106). The answer
is the serial and the slot. A slot whose trigger frame a gap has taken is truncated at once, its hold from the accepted frame that
followed the gap (R106, R108, R109). -/
def Part.takeSlot (p : Part) (trigger : Trigger) (event : Option Nat) (origin : Origin) (triggerFrame : Nat) :
    Option ((Nat × Nat) × Part) :=
  match p.capture.freeSlot with
  | none => none
  | some i =>
    let serial := p.capture.nextSerial
    let gap := p.gapAfter triggerFrame
    let ring := if gap.isSome then [] else p.capture.ring
    let s := newSlot ring p.profile.inForce p.receiver.delivered serial trigger event origin triggerFrame
    let q := { p with capture := { p.capture with slots := p.capture.slots.set i (some s), nextSerial := nextNumber serial } }
    some ((serial, i), match gap with
      | some accepted => q.endFilling serial accepted true
      | none => q)

/-- Whether an event's number is that of a FILLING chain with trigger kind DIP. -/
def isFillingDip (number : Nat) : Option CapSlot → Bool
  | some s => !s.held && decide (s.trigger = .dip) && decide (s.event = some number)
  | none => false

/-- The serial of the FILLING DIP chain of an event number (R104). -/
def Capture.fillingDip (c : Capture) (number : Nat) : Option Nat :=
  (c.slots.find? (isFillingDip number)).bind (fun s => s.map CapSlot.serial)

/-- A free slot taken, or CAPTURE_SLOTS_FULL raised and the request refused (R103). -/
def Part.takeOrRefuse (p : Part) (trigger : Trigger) (number triggerFrame : Nat) : CaptureAnswer × Part :=
  match p.takeSlot trigger (some number) .recorder triggerFrame with
  | some ((serial, _), p) => (.taken serial, p)
  | none => (.refused, p.raiseAll .captureSlotsFull (.number number))

/-- An event's capture request (R49, R103, R104); `linked` is the linked event of an interruption. -/
def Part.requestCapture (p : Part) (trigger : Trigger) (number : Nat) (linked : Option Nat) (triggerFrame : Nat) :
    CaptureAnswer × Part :=
  match linked.bind p.capture.fillingDip with
  | some serial => (.shared serial, p)
  | none => p.takeOrRefuse trigger number triggerFrame

/-- The frame index a chain takes next. -/
def Capture.nextIndex (c : Capture) (s : CapSlot) : Nat := s.firstFrame + (c.chainFrames s.serial).length

/-- A delivered frame in one slot: it enters a FILLING slot whose remaining count is above 0 when it follows the last frame held (R106). -/
def fillSlot (c : Capture) (f : RingFrame) : Option CapSlot → Option CapSlot
  | some s =>
    if !s.held && decide (0 < s.remaining) && decide (c.nextIndex s = f.index) then
      some { s with frames := s.frames ++ [f.content], remaining := s.remaining - 1 }
    else some s
  | none => none

/-- A delivered frame in the ring and in the filling slots (R101, R106). -/
def Capture.deliver (c : Capture) (f : RingFrame) : Capture :=
  { c with ring := ringPush c.ring f, slots := c.slots.map (fillSlot c f) }

/-- Whether slot `i` is FILLING, the last of its chain and full (R107). -/
def Part.slotFullDue (p : Part) (i : Nat) : Bool :=
  match p.capture.slot i with
  | some s => !s.held && decide (s.remaining = 0) && s.next.isNone
  | none => false

/-- Whether the chain of a full slot goes on (R107): an event trigger whose event is still open, room in the allowance; the FREE slot is
looked for by `extendOrEnd`. -/
def Part.mayExtend (p : Part) (s : CapSlot) : Bool :=
  decide (s.trigger ≠ .manual) && p.classifier.holdsChain s.serial &&
  decide (p.capture.chainLength s.serial < 1 + s.allowance)

/-- A full slot: its chain extends into the lowest-numbered FREE slot, which receives the chain's fields, the settings it
took at its trigger among them, or its filling ends (R107, R109, R114). -/
def Part.extendOrEnd (p : Part) (i : Nat) : Part :=
  match p.capture.slot i with
  | none => p
  | some s =>
    match if p.mayExtend s then p.capture.freeSlot else none with
    | some j =>
      let ext := { s with preCount := 0, frames := [], remaining := slotRoom, next := none }
      { p with capture := { p.capture with slots := (p.capture.slots.set i (some { s with next := some j })).set j (some ext) } }
    | none => p.endFilling s.serial p.nowFrame false

/-- A gap indication: the ring is emptied and every FILLING chain is truncated, in ascending order of serial (R101, R108; log entry 8, DESIGN CHOICE).
`accepted` is the index of the frame that follows the gap. -/
def Part.captureGap (p : Part) (accepted : Nat) : Part :=
  let p := { p with capture := { p.capture with ring := [], resumed := some accepted } }
  p.capture.fillingSerials.foldl (fun q serial => q.endFilling serial accepted true) p

/-- SUPPLY-FAIL: every FILLING chain ends filling in ascending order of serial, truncated when the receiver was LOST (R114). -/
def Part.captureStop (p : Part) : Part :=
  p.capture.fillingSerials.foldl (fun q serial => q.endFilling serial q.nowFrame (decide (p.receiver.acq = .lost))) p

/-- Whether slot `i` is HELD and a frame at or past its expiry has been delivered (R111). -/
def Part.expiryDue (p : Part) (i : Nat) : Bool :=
  match p.capture.slot i with
  | some s => s.held && p.receiver.delivered && decide (s.holdStart + s.holdLength ≤ p.receiver.frameIndex) && !p.failing
  | none => false

/-- A HELD chain expired: every slot of it FREE (R111). -/
def Part.expire (p : Part) (i : Nat) : Part :=
  match p.capture.slot i with
  | some s => { p with capture := p.capture.freeChain s.serial }
  | none => p

end Sys2Proof.Machine
end

