-- ==== Sys2Proof/Machine/FoldMachines.lean ====
section
/-! DEFINITION. Burst folding: the three fold machines (spec 04, section 4.3). -/

namespace Sys2Proof.Machine

/-- The fold machine of a type. -/
def Folds.get (f : Folds) : FoldType → Fold
  | .dip => f.dip
  | .swell => f.swell
  | .rvc => f.rvc

/-- The fold machine of a type replaced. -/
def Folds.set (f : Folds) (t : FoldType) (m : Fold) : Folds :=
  match t with
  | .dip => { f with dip := m }
  | .swell => { f with swell := m }
  | .rvc => { f with rvc := m }

/-- One fold machine replaced. -/
def Part.setFold (p : Part) (t : FoldType) (m : Fold) : Part := { p with folds := p.folds.set t m }

/-- The next event number drawn (R43). -/
def Part.drawNumber (p : Part) : Nat × Part :=
  (p.classifier.nextEvent, { p with classifier := { p.classifier with nextEvent := nextNumber p.classifier.nextEvent } })

/-- Since last end counted up at a value set (R68). -/
def Fold.count (f : Fold) : Fold := { f with sinceEnd := f.sinceEnd.map (fun n => satAdd 65535 n 1) }

/-- Every fold machine's since last end counted up (R68). -/
def Part.countFolds (p : Part) : Part :=
  { p with folds := { dip := p.folds.dip.count, swell := p.folds.swell.count, rvc := p.folds.rvc.count } }

/-- Whether a distance is present and at most Q (R69). -/
def isNear (q : Nat) : Option Nat → Bool
  | some d => decide (d ≤ q)
  | none => false

/-- The run counted by a CLOSED fold, which opens at the Bth event (R69). -/
def Fold.countRun (f : Fold) (distance : Option Nat) (q b : Nat) : Fold :=
  let run := if isNear q distance then f.runCount + 1 else 1
  if b ≤ run then { f with runCount := run, isOpen := true, summary := emptySummary, burst := none } else { f with runCount := run }

/-- The fold decision at `distance` half-cycles from the last end: true when the event is folded (R69, R70). The first folded event
draws the burst number (R71). -/
def Part.foldDecision (p : Part) (t : FoldType) (distance : Option Nat) : Bool × Part :=
  let f := p.folds.get t
  if f.isOpen then
    match f.burst with
    | some _ => (true, p)
    | none => (true, p.drawNumber.2.setFold t { f with burst := some p.drawNumber.1 })
  else (false, p.setFold t (f.countRun distance p.profile.inForce.burstSpacing.toNat p.profile.inForce.burstRun.toNat))

/-- What a folded event contributes when it ends (R71). -/
structure Ending where
  start : Nat
  stop : Option Nat
  halfCycles : Nat
  extreme : Nat
  extremeChan : Chan
  chans : ChanSet
  flags : BurstFlags
  deriving DecidableEq, Repr

/-- Whether a folded event's extreme replaces the summary's: strictly lower for dips, strictly higher for swells and RVCs (R71). -/
def foldBetter (t : FoldType) (new old : Nat) : Bool :=
  match t with
  | .dip => decide (new < old)
  | .swell | .rvc => decide (old < new)

/-- A folded event merged into the summary (R71). -/
def Summary.merge (s : Summary) (t : FoldType) (e : Ending) : Summary :=
  let replace := decide (s.count = 0) || foldBetter t e.extreme s.extreme
  { count := satAdd max32 s.count 1
    firstStart := if s.count = 0 then e.start else s.firstStart
    lastEnd := e.stop
    extreme := if replace then e.extreme else s.extreme
    extremeChan := if replace then e.extremeChan else s.extremeChan
    chans := s.chans.union e.chans
    total := satAdd max32 s.total e.halfCycles
    flags := s.flags.union e.flags }

/-- An event of a type has ended: since last end restarts at `since`, and a folded event is merged (R68, R71). -/
def Fold.ended (f : Fold) (t : FoldType) (since : Nat) (folded : Option Ending) : Fold :=
  match folded with
  | some e => { f with sinceEnd := some since, summary := f.summary.merge t e }
  | none => { f with sinceEnd := some since }

/-- The BURST record of an OPEN fold with a folded count of at least 1 handed to the commit path, timestamped `frame` (R75). -/
def Part.handBurst (p : Part) (t : FoldType) (closure : FoldClosure) (frame : Nat) : Part :=
  let f := p.folds.get t
  if f.isOpen && decide (1 ≤ f.summary.count) then
    p.handRecord (p.buildRec .recorder frame (.burst ⟨t, f.burst.getD 0, f.summary, closure⟩))
  else p

/-- A fold closed: run count 0, empty summary, the burst number released (R72). -/
def Fold.closed (f : Fold) : Fold := { f with isOpen := false, runCount := 0, burst := none, summary := emptySummary }

/-- Whether an event of the type is open, a candidate standing for an open RVC (R72). -/
def Part.typeOpen (p : Part) : FoldType → Bool
  | .dip => p.classifier.dip.isSome
  | .swell => p.classifier.swell.isSome
  | .rvc => decide (p.rvc.mode = .candidate)

/-- Whether a fold's quiet period is over (R72). -/
def Part.quietDue (p : Part) (t : FoldType) : Bool :=
  let f := p.folds.get t
  f.isOpen && !p.failing && !p.typeOpen t &&
  (match f.sinceEnd with | some n => decide (p.profile.inForce.burstQuiet.toNat ≤ n) | none => false)

/-- A fold closed on its quiet period (R72). -/
def Part.quietClose (p : Part) (t : FoldType) : Part :=
  let q := p.handBurst t .quiet p.nowFrame
  q.setFold t (q.folds.get t).closed

/-- A fold's quiet close, when it is due. -/
def Part.settleFold (p : Part) (t : FoldType) : Part := if p.quietDue t then p.quietClose t else p

/-- The quiet closes that are due (R72), in the order dip, swell, RVC (log entry 8, DESIGN CHOICE). -/
def Part.settleFolds (p : Part) : Part := ((p.settleFold .dip).settleFold .swell).settleFold .rvc

/-- Every fold's BURST record handed, in the order dip, swell, RVC (R73, R74). -/
def Part.handBursts (p : Part) (closure : FoldClosure) (frame : Nat) : Part :=
  ((p.handBurst .dip closure frame).handBurst .swell closure frame).handBurst .rvc closure frame

/-- Every fold closed by an adoption: CLOSED, run count 0, since last end and start distance NONE, empty summary (R73). -/
def Part.closeFolds (p : Part) (frame : Nat) : Part :=
  { p.handBursts .profile frame with folds := ⟨resetFold, resetFold, resetFold⟩ }

end Sys2Proof.Machine
end

