-- ==== Sys2Proof/Machine/RecurrenceTable.lean ====
section
/-! DEFINITION. The recurrence table: signatures, lookup and learning, aging and clearing (spec 06). -/

namespace Sys2Proof.Machine

/-- The depth band of an ended event (R91). -/
def depthBand (t : EventType) (udecl extreme : Nat) : Nat :=
  match t with
  | .dip | .interruption => min 7 ((udecl - extreme) * 8 / udecl)
  | .swell => min 7 ((extreme - udecl) * 32 / udecl)

/-- The duration band of an ended event (R91). -/
def durationBand (halfCycles : Nat) : Nat := min 15 (Nat.log2 halfCycles)

/-- The signature of an ended event (R91). -/
def signatureOf (t : EventType) (chans : ChanSet) (extreme halfCycles udecl : Nat) : Signature :=
  ⟨t, chans, depthBand t udecl extreme, durationBand halfCycles⟩

/-- Whether an entry holds a signature. -/
def holdsSignature (sig : Signature) : Option RecurEntry → Bool
  | some e => decide (e.signature = sig)
  | none => false

/-- The place to learn a signature: the lowest-numbered invalid entry, else the entry with the oldest last seen, the
lowest-numbered among equals (R93). The second component of the fold is the best found so far. -/
def oldestEntry : List (Option RecurEntry) → Nat → Option (Nat × Nat) → Nat
  | [], _, best => (best.map Prod.fst).getD 0
  | none :: _, i, _ => i
  | some e :: es, i, best =>
    match best with
    | none => oldestEntry es (i + 1) (some (i, e.lastSeen.frame))
    | some (j, f) =>
      if e.lastSeen.frame < f then oldestEntry es (i + 1) (some (i, e.lastSeen.frame)) else oldestEntry es (i + 1) (some (j, f))

/-- The table revision raised by one, wrapping to 0 after 2^32 − 1. -/
def Recurrence.bump (r : Recurrence) : Recurrence := { r with revision := (r.revision + 1) % (max32 + 1) }

/-- The number of valid entries. -/
def Recurrence.validCount (r : Recurrence) : Nat := r.entries.countP Option.isSome

/-- A hit: count up, last seen at the event's end (R92). -/
def RecurEntry.hit (e : RecurEntry) (stop : Stamp) : RecurEntry := { e with count := satAdd 65535 e.count 1, lastSeen := stop }

/-- A looked-up event: the entry that holds its signature and that entry's count, with the part after the update
(R92, R93, R94, R95). `stop` is the event's end. -/
def Part.lookup (p : Part) (t : EventType) (chans : ChanSet) (extreme halfCycles stop : Nat) : (Nat × Nat) × Part :=
  let sig := signatureOf t chans extreme halfCycles p.profile.inForce.udecl.toNat
  let stamp : Stamp := ⟨p.receiver.epoch, stop⟩
  let table := p.recurrence
  match table.entries.findIdx? (holdsSignature sig) with
  | some i =>
    match table.entries.getD i none with
    | some e =>
      let e' := e.hit stamp
      let reached := decide (p.profile.inForce.recurThr.toNat ≤ e'.count) && !e.noticeSent
      let e'' := { e' with noticeSent := e.noticeSent || reached }
      let p := { p with recurrence := { table with entries := table.entries.set i (some e'') }.bump }
      ((i, e'.count), if reached then p.raiseAll .recurrenceThreshold (.number i) else p)
    | none => ((i, 0), p)
  | none =>
    let i := oldestEntry table.entries 0 none
    let e : RecurEntry := ⟨sig, 1, stamp, stamp, false⟩
    ((i, 1), { p with recurrence := { table with entries := table.entries.set i (some e) }.bump })

/-- Whether an entry is too old at a close: last seen more than `age` frames before it (R96). -/
def agedOut (age close : Nat) : Option RecurEntry → Bool
  | some e => decide (e.lastSeen.frame + age < close)
  | none => false

/-- An aging pass at an interval close (R96). -/
def Recurrence.ageAt (r : Recurrence) (age close : Nat) : Recurrence :=
  if r.entries.any (agedOut age close) then
    { r with entries := r.entries.map (fun e => if agedOut age close e then none else e) }.bump
  else r

/-- Aging under the profile in force (R96). -/
def Part.ageTable (p : Part) (close : Nat) : Part :=
  { p with recurrence := p.recurrence.ageAt (p.profile.inForce.recurAge.toNat * hourFrames) close }

/-- Every entry invalidated (R97). -/
def Recurrence.clear (r : Recurrence) : Recurrence := { r with entries := r.entries.map (fun _ => none) }.bump

/-- Whether two profiles differ in a field that clears the table at an adoption (R97). -/
def signatureFieldsDiffer (old new : Profile) : Bool :=
  decide (old.udecl ≠ new.udecl) || decide (old.dipThr ≠ new.dipThr) || decide (old.swellThr ≠ new.swellThr) ||
  decide (old.intrThr ≠ new.intrThr) || decide (old.hyst ≠ new.hyst) || decide (old.rvcThr ≠ new.rvcThr) ||
  decide (old.recurThr ≠ new.recurThr) || decide (old.channels ≠ new.channels)

/-- The valid entries at or above a starting number, with their numbers, in ascending order. -/
def Recurrence.itemsFrom (r : Recurrence) (start : Nat) : List RecurItem :=
  (r.entries.zipIdx).filterMap (fun (e, i) => if start ≤ i then e.map (fun x => ⟨i, x⟩) else none)

end Sys2Proof.Machine
end

