-- ==== Sys2Proof/Machine/ValueEngine.lean ====
section
/-! DEFINITION. The value engine: sums of squares, the one-cycle value, the value set (spec 02). -/

namespace Sys2Proof.Machine

/-- The square of a sample (R20). -/
def squareOf (x : Sample) : Nat := x.toInt.natAbs * x.toInt.natAbs

/-- Clipped: −32,768 or +32,767 (R21). -/
def isClipped (x : Sample) : Bool := decide (x = 0x8000#16) || decide (x = 0x7FFF#16)

/-- A frame of a half-cycle summed on one channel (R20). -/
def sumOn (inUse : ChanSet) (samples : Tri Sample) (sum : Tri Nat) (c : Chan) : Nat :=
  if inUse.get c then sum.get c + squareOf (samples.get c) else sum.get c

/-- A clipped sample of a half-cycle counted on one channel (R21). -/
def clipOn (inUse : ChanSet) (samples : Tri Sample) (clip : Tri Nat) (c : Chan) : Nat :=
  if inUse.get c && isClipped (samples.get c) then clip.get c + 1 else clip.get c

/-- A frame placed inside a half-cycle, summed (R20, R21). -/
def Engine.sumFrame (e : Engine) (inUse : ChanSet) (samples : Tri Sample) : Engine :=
  { e with openSum := Tri.build (sumOn inUse samples e.openSum), openClip := Tri.build (clipOn inUse samples e.openClip),
           openCount := e.openCount + 1 }

/-- The discard at a RESYNC: open sums, clip counts and count, and previous valid (R26). -/
def Engine.discard (e : Engine) : Engine :=
  { e with openSum := Tri.all 0, openClip := Tri.all 0, openCount := 0, prevValid := Tri.all false }

/-- A root scaled to centivolts, before the limit of 65,535 (R24, R83). -/
def scaled (root gain : Nat) : Nat := (root * gain + 2048) / 4096

/-- The largest value in centivolts (R24, R83). -/
def maxValue : Nat := 65535

/-- The value of a channel from a sum of squares over `count` frames: mean square, exact root, scaling, limit (R23, R24, R83). -/
def rmsValue (sum count gain : Nat) : Nat := min maxValue (scaled (isqrt (sum / count)) gain)

/-- Whether the limit of 65,535 acted (R24, R83). -/
def rmsLimited (sum count gain : Nat) : Bool := decide (maxValue < scaled (isqrt (sum / count)) gain)

/-- A channel's entry of the value set at a boundary (R22 to R25, R27). -/
def Engine.entry (e : Engine) (pr : Profile) (c : Chan) : ChanValue :=
  let sum := e.prevSum.get c + e.openSum.get c
  let count := e.prevCount + e.openCount
  if e.prevValid.get c then
    { sum := e.openSum.get c, clip := e.openClip.get c, u := some (rmsValue sum count (pr.gain c)),
      overRange := rmsLimited sum count (pr.gain c) || decide (e.openClip.get c ≠ 0) || decide (e.prevClip.get c ≠ 0) }
  else { sum := e.openSum.get c, clip := e.openClip.get c, u := none, overRange := false }

/-- The value set of a half-cycle result (R27): no entry for a channel not in use. -/
def Engine.valueSet (e : Engine) (pr : Profile) (r : HalfCycle) : ValueSet where
  result := r
  inUse := pr.inUse
  entries := Tri.build (fun c => if pr.inUse.get c then some (e.entry pr c) else none)

/-- The closed half-cycle moved into the previous slot, and the value set kept as the last one (R22, R28). -/
def Engine.close (e : Engine) (vs : ValueSet) : Engine :=
  { e with prevSum := e.openSum, prevClip := e.openClip, prevCount := e.openCount, prevValid := vs.inUse,
           openSum := Tri.all 0, openClip := Tri.all 0, openCount := 0, last := some vs }

/-- An adoption at the engine: RESYNC's discard and the new level set (R29, R32); the gains and channels are read from the profile. -/
def Engine.adopt (e : Engine) (pr : Profile) : Engine := { e.discard with levels := levelsOf pr }

/-- The value of a channel in a value set; absent with *no-value* and for a channel not in use. -/
def ValueSet.value (vs : ValueSet) (c : Chan) : Option Nat := (vs.entries.get c).bind ChanValue.u

/-- The values of a value set. -/
def ValueSet.values (vs : ValueSet) : Tri (Option Nat) := Tri.build vs.value

/-- Whether some in-use channel carries *no-value*. -/
def ValueSet.someMissing (vs : ValueSet) : Bool := vs.inUse.any (fun c => (vs.value c).isNone)

/-- Whether some in-use channel's value carries *over-range*. -/
def ValueSet.anyOverRange (vs : ValueSet) : Bool := vs.inUse.any (fun c => ((vs.entries.get c).map ChanValue.overRange).getD false)

/-- A channel's value taken when it is better than the best so far; ties keep what was met first (R41, R61, R62). -/
def takeBetter (better : Nat → Nat → Bool) (values : Tri (Option Nat)) (best : Option (Nat × Chan)) (c : Chan) : Option (Nat × Chan) :=
  match values.get c, best with
  | none, b => b
  | some u, none => some (u, c)
  | some u, some (v, d) => if better u v then some (u, c) else some (v, d)

/-- The best value over the channels in ascending order, starting from the best so far. -/
def pickBest (better : Nat → Nat → Bool) (values : Tri (Option Nat)) (best : Option (Nat × Chan)) : Option (Nat × Chan) :=
  Chan.list.foldl (takeBetter better values) best

end Sys2Proof.Machine
end

