-- ==== Sys2Proof/Machine/Classifier.lean ====
section
/-! DEFINITION. The event classifier: flags, the three machines, and events closed without a closing half-cycle (spec 03). -/

namespace Sys2Proof.Machine

/-! ## Flags (R35, R36) -/

/-- One flag: set past the start level, cleared past the end level, else unchanged (R35). -/
def nextFlag (flag starts ends : Bool) : Bool := if flag then !ends else starts

/-- A channel's three flags after a value (R35). -/
def ChanFlags.update (f : ChanFlags) (l : Levels) (u : Nat) : ChanFlags where
  dip := nextFlag f.dip (decide (u < l.dipStart)) (decide (l.dipEnd ≤ u))
  swell := nextFlag f.swell (decide (l.swellStart < u)) (decide (u ≤ l.swellEnd))
  intr := nextFlag f.intr (decide (u < l.intrStart)) (decide (l.intrEnd ≤ u))

/-- A channel's flags after a value set: unchanged without a value (R35, R36). -/
def flagsAfter (l : Levels) (vs : ValueSet) (flags : Tri ChanFlags) (c : Chan) : ChanFlags :=
  match vs.value c with
  | some u => (flags.get c).update l u
  | none => flags.get c

/-- The flag of an event type. -/
def ChanFlags.of (f : ChanFlags) : EventType → Bool
  | .dip => f.dip
  | .swell => f.swell
  | .interruption => f.intr

/-- The in-use channels whose flag of a type is set. -/
def flagged (inUse : ChanSet) (flags : Tri ChanFlags) (t : EventType) : ChanSet :=
  Tri.build (fun c => inUse.get c && (flags.get c).of t)

/-! ## Machines -/

/-- The machine of a type; `none` is IDLE. -/
def Classifier.machine (c : Classifier) : EventType → Option OpenEvent
  | .dip => c.dip
  | .swell => c.swell
  | .interruption => c.interruption

/-- The machine of a type replaced. -/
def Classifier.setMachine (c : Classifier) (t : EventType) (e : Option OpenEvent) : Classifier :=
  match t with
  | .dip => { c with dip := e }
  | .swell => { c with swell := e }
  | .interruption => { c with interruption := e }

/-- One machine of the part replaced. -/
def Part.setMachine (p : Part) (t : EventType) (e : Option OpenEvent) : Part := { p with classifier := p.classifier.setMachine t e }

/-- Whether any event is open. -/
def Classifier.anyOpen (c : Classifier) : Bool := c.dip.isSome || c.swell.isSome || c.interruption.isSome

/-- Whether a value is more extreme: lower for a dip or an interruption, higher for a swell (R41). -/
def eventBetter (t : EventType) (new old : Nat) : Bool :=
  match t with
  | .dip | .interruption => decide (new < old)
  | .swell => decide (old < new)

/-- An open event brought up to date with a value set (R41). -/
def OpenEvent.update (e : OpenEvent) (t : EventType) (vs : ValueSet) (flags : Tri ChanFlags) : OpenEvent :=
  let best := (pickBest (eventBetter t) vs.values (some (e.extreme, e.extremeChan))).getD (e.extreme, e.extremeChan)
  { e with
    halfCycles := satAdd max32 e.halfCycles 1
    extreme := best.1
    extremeChan := best.2
    chans := e.chans.union (flagged vs.inUse flags t)
    flags := { e.flags with overRange := e.flags.overRange || vs.anyOverRange
                            freeRunning := e.flags.freeRunning || vs.result.freeRunning } }

/-- Whether the opening condition of a machine holds on the flags (R38, R39, R40). -/
def openCondition (t : EventType) (inUse : ChanSet) (flags : Tri ChanFlags) : Bool :=
  match t with
  | .dip | .swell => inUse.any (fun c => (flags.get c).of t)
  | .interruption => inUse.every (fun c => (flags.get c).of t)

/-- The fold type of an event type; interruptions do not fold (R42). -/
def EventType.fold : EventType → Option FoldType
  | .dip => some .dip
  | .swell => some .swell
  | .interruption => none

/-- The trigger kind of an event type (R49). -/
def EventType.trigger : EventType → Trigger
  | .dip => .dip
  | .swell => .swell
  | .interruption => .interruption

/-- The EVENT sub-type of an event type. -/
def EventType.subType : EventType → SubType
  | .dip => .dip
  | .swell => .swell
  | .interruption => .interruption

/-! ## Closing -/

/-- How an event is closed: its end frame, its corrected count, the frame its lookup ends at, its record's timestamp and the marks of
R53 and R54. -/
structure Close where
  stop : Option Nat
  halfCycles : Nat
  lookupEnd : Nat
  frame : Nat
  byProfile : Bool
  bySupplyFail : Bool
  deriving DecidableEq, Repr

/-- The capture serial an event's record carries (R50). -/
def CaptureAnswer.serial : CaptureAnswer → Option Nat
  | .absent => none
  | .taken n => some n
  | .shared n => some n
  | .refused => none

/-- Whether the record carries *shared-capture* (R50). -/
def CaptureAnswer.isShared : CaptureAnswer → Bool
  | .shared _ => true
  | _ => false

/-- The EVENT record's payload (R50, R51, R55). -/
def eventPayload (t : EventType) (e : OpenEvent) (c : Close) (index count threshold : Nat) : EventRecord where
  subType := t.subType
  number := e.number.getD 0
  start := e.start
  stop := c.stop
  halfCycles := c.halfCycles
  extreme := e.extreme
  extremeChan := e.extremeChan
  uss := none
  chans := e.chans
  flags := { spansGap := e.flags.spansGap, overRange := e.flags.overRange, freeRunning := e.flags.freeRunning,
             recurrent := decide (threshold ≤ count), closedByProfile := c.byProfile, closedBySupplyFail := c.bySupplyFail,
             sharedCapture := e.capture.isShared, captureRefused := decide (e.capture = .refused) }
  linked := e.linked
  serial := e.capture.serial
  recurrence := some (index, count)

/-- What a folded event hands its fold machine (R71). -/
def foldEnding (e : OpenEvent) (c : Close) : Ending where
  start := e.start
  stop := c.stop
  halfCycles := c.halfCycles
  extreme := e.extreme
  extremeChan := e.extremeChan
  chans := e.chans
  flags := ⟨e.flags.spansGap, e.flags.overRange, e.flags.freeRunning, c.byProfile, c.bySupplyFail⟩

/-- An ended event told to its fold machine (R68, R71). -/
def Part.foldEnded (p : Part) (t : EventType) (e : OpenEvent) (c : Close) : Part :=
  match t.fold with
  | none => p
  | some ft => p.setFold ft ((p.folds.get ft).ended ft 0 (if e.folded then some (foldEnding e c) else none))

/-- An event closed: the machine IDLE, the lookup made, the fold machine told, the EVENT record of a recorded event handed on
(R42, R48, R51, R55). The capture unit sees the ending as the machine no longer holding the chain. -/
def Part.closeEvent (p : Part) (t : EventType) (e : OpenEvent) (c : Close) : Part :=
  let found := p.lookup t e.chans e.extreme c.halfCycles c.lookupEnd
  let q := (found.2.foldEnded t e c).setMachine t none
  if e.folded then q
  else q.handRecord (q.buildRec .recorder c.frame
    (.event (eventPayload t e c found.1.1 found.1.2 p.profile.inForce.recurThr.toNat)))

/-- A natural close at a boundary: the count less 1, the end frame the boundary (R42). -/
def naturalClose (e : OpenEvent) (boundary : Nat) : Close := ⟨some boundary, e.halfCycles - 1, boundary, boundary, false, false⟩

/-- One machine's closing step (R37, third step). -/
def Part.closeStep (p : Part) (vs : ValueSet) (t : EventType) : Part :=
  match p.classifier.machine t with
  | none => p
  | some e => if openCondition t vs.inUse p.classifier.flags then p else p.closeEvent t e (naturalClose e vs.result.boundary)

/-! ## Opening -/

/-- A new open event of a type (R42). -/
def newEvent (t : EventType) (vs : ValueSet) (flags : Tri ChanFlags) (folded : Bool) (number linked : Option Nat) : OpenEvent :=
  let best := (pickBest (eventBetter t) vs.values none).getD (0, .c1)
  { folded := folded, number := number, start := vs.result.boundary, halfCycles := 1, extreme := best.1, extremeChan := best.2,
    chans := flagged vs.inUse flags t, flags := ⟨false, vs.anyOverRange, vs.result.freeRunning⟩, capture := .absent,
    linked := linked }

/-- The event an interruption links to: the open dip's number, or the burst number its fold machine holds (R44). -/
def Part.enclosing (p : Part) : Option Nat :=
  match p.classifier.dip with
  | none => none
  | some d => if d.folded then p.folds.dip.burst else d.number

/-- The enclosing dip's link to its first interruption (R44). -/
def OpenEvent.linkFirst (d : OpenEvent) (number : Nat) : OpenEvent :=
  if d.folded || d.linked.isSome then d else { d with linked := some number }

/-- The enclosing dip told of an interruption (R44). -/
def Part.linkDip (p : Part) (t : EventType) (number : Nat) : Part :=
  match t with
  | .interruption => p.setMachine .dip (p.classifier.dip.map (fun d => d.linkFirst number))
  | .dip | .swell => p

/-- The link of an opening event: an interruption's enclosing event, absent for a dip or a swell (R42, R44). -/
def Part.linkOf (p : Part) : EventType → Option Nat
  | .interruption => p.enclosing
  | .dip | .swell => none

/-- A recorded event opened: its number drawn, its link set, its capture asked for (R43, R44, R49). -/
def Part.openRecorded (p : Part) (t : EventType) (vs : ValueSet) : Part :=
  let linked := p.linkOf t
  let n := p.drawNumber.1
  let q := p.drawNumber.2.linkDip t n
  let e := newEvent t vs q.classifier.flags false (some n) linked
  let asked := (q.setMachine t (some e)).requestCapture t.trigger n linked vs.result.boundary
  asked.2.setMachine t (some { e with capture := asked.1 })

/-- A folded event opened: no number, no capture (R42). -/
def Part.openFolded (p : Part) (t : EventType) (vs : ValueSet) : Part :=
  p.setMachine t (some (newEvent t vs p.classifier.flags true none none))

/-- An event opened after the fold decision of its type (R42, R69). -/
def Part.openEvent (p : Part) (t : EventType) (vs : ValueSet) : Part :=
  match t.fold with
  | none => p.openRecorded t vs
  | some ft =>
    let decided := p.foldDecision ft (p.folds.get ft).sinceEnd
    if decided.1 then decided.2.openFolded t vs else decided.2.openRecorded t vs

/-- One machine's opening step (R37, fourth step). -/
def Part.openStep (p : Part) (vs : ValueSet) (t : EventType) : Part :=
  match p.classifier.machine t with
  | some _ => p
  | none => if openCondition t vs.inUse p.classifier.flags then p.openEvent t vs else p

/-! ## A value set (R37) -/

/-- The flags updated and every open event brought up to date (R37, first and second steps). -/
def Classifier.absorb (c : Classifier) (l : Levels) (vs : ValueSet) : Classifier :=
  let flags := Tri.build (flagsAfter l vs c.flags)
  { c with flags := flags
           dip := c.dip.map (fun e => e.update .dip vs flags)
           swell := c.swell.map (fun e => e.update .swell vs flags)
           interruption := c.interruption.map (fun e => e.update .interruption vs flags) }

/-- The closing steps in the order interruption, dip, swell (R37). -/
def Part.closeSteps (p : Part) (vs : ValueSet) : Part := ((p.closeStep vs .interruption).closeStep vs .dip).closeStep vs .swell

/-- The opening steps in the order dip, interruption, swell (R37). -/
def Part.openSteps (p : Part) (vs : ValueSet) : Part := ((p.openStep vs .dip).openStep vs .interruption).openStep vs .swell

/-- What the classifier hands on (R48), from the classifier before the closing steps, after them and after the opening steps. -/
def outcomeOf (before closed after : Classifier) : Outcome where
  openedDipSwell := (closed.dip.isNone && after.dip.isSome) || (closed.swell.isNone && after.swell.isSome)
  endedDipSwell := (before.dip.isSome && closed.dip.isNone) || (before.swell.isSome && closed.swell.isNone)
  openDipSwell := after.dip.isSome || after.swell.isSome
  flagged := before.anyOpen || after.anyOpen

/-- A value set handled whole (R37, R48, R68). -/
def Part.classify (p : Part) (vs : ValueSet) : Outcome × Part :=
  let p := p.countFolds
  let p := { p with classifier := p.classifier.absorb p.engine.levels vs }
  let closed := p.closeSteps vs
  let opened := closed.openSteps vs
  (outcomeOf p.classifier closed.classifier opened.classifier, opened)

/-! ## Gaps, adoption and supply failure -/

/-- An open event marked *spans-gap* (R46). -/
def OpenEvent.markGap (e : OpenEvent) : OpenEvent := { e with flags := { e.flags with spansGap := true } }

/-- Every open event marked *spans-gap* (R46). -/
def Classifier.markGap (c : Classifier) : Classifier :=
  { c with dip := c.dip.map OpenEvent.markGap, swell := c.swell.map OpenEvent.markGap,
           interruption := c.interruption.map OpenEvent.markGap }

/-- The boundary frame of the last value set handled. -/
def Part.lastBoundary (p : Part) : Nat := (p.engine.last.map (fun vs => vs.result.boundary)).getD 0

/-- One machine closed by a forced adoption whose frame is `frame` (R53). -/
def Part.forceStep (p : Part) (frame : Nat) (t : EventType) : Part :=
  match p.classifier.machine t with
  | none => p
  | some e => p.closeEvent t e ⟨some p.lastBoundary, e.halfCycles, p.lastBoundary, frame, true, false⟩

/-- Every open event closed by a forced adoption, in the order interruption, dip, swell (R53). -/
def Part.forceClose (p : Part) (frame : Nat) : Part :=
  ((p.forceStep frame .interruption).forceStep frame .dip).forceStep frame .swell

/-- One machine closed by SUPPLY-FAIL (R54). -/
def Part.failStep (p : Part) (t : EventType) : Part :=
  match p.classifier.machine t with
  | none => p
  | some e =>
    let e := if p.receiver.acq = .lost then e.markGap else e
    p.closeEvent t e ⟨none, e.halfCycles, p.nowFrame, p.nowFrame, false, true⟩

/-- Every open event closed by SUPPLY-FAIL, in the order interruption, dip, swell (R54). -/
def Part.failClose (p : Part) : Part := ((p.failStep .interruption).failStep .dip).failStep .swell

/-- The numbers of the recorded open events in closing order (R195). -/
def Classifier.openNumbers (c : Classifier) : List Nat :=
  [c.interruption, c.dip, c.swell].filterMap (fun e => e.bind OpenEvent.number)

/-- The flags taken into a new profile: cleared by a forced adoption, else kept for the channels that stay in use (R52, R53). -/
def adoptedFlags (forced : Bool) (old new : ChanSet) (flags : Tri ChanFlags) (c : Chan) : ChanFlags :=
  if forced || !old.get c || !new.get c then noFlags else flags.get c

/-- The classifier at an adoption (R52, R53). -/
def Classifier.adopt (c : Classifier) (forced : Bool) (old new : ChanSet) : Classifier :=
  { c with flags := Tri.build (adoptedFlags forced old new c.flags) }

end Sys2Proof.Machine
end

