-- ==== Sys2Proof/Machine/JournalControl.lean ====
section
/-! DEFINITION. The journal controller's ring: tail, marks, evaluation for reclaim, moving on (spec 09, sections 9.3 and 9.4). -/

namespace Sys2Proof.Machine

/-- The largest sequence number a record or a settings entry may carry (R133, R148). -/
def lastSequence : Nat := 4294967294

/-- The sector after a sector in ring order (R131). -/
def sectorAfter (n : Nat) : Nat := (n + 1) % ringSectors

/-- A ring sector's entry in the sector table. -/
def Journal.sector (j : Journal) (n : Nat) : Sector := j.sectors.getD n erasedSector

/-- A ring sector's entry replaced. -/
def Journal.setSector (j : Journal) (n : Nat) (s : Sector) : Journal := { j with sectors := j.sectors.set n s }

/-- The sector table's first sequence: that of the first valid record; absent when the sector holds none. -/
def Sector.first (s : Sector) : Option Nat := s.valid.head?.map Stored.seq

/-- Whether a spare exists: the sector after the open sector is ERASED. -/
def Journal.spare (j : Journal) : Bool := decide ((j.sector (sectorAfter j.openSector)).state = .erased)

/-- The sectors after the open sector in ring order, the open sector itself last. -/
def Journal.ringOrder (j : Journal) : List Nat := (List.range ringSectors).map (fun k => (j.openSector + 1 + k) % ringSectors)

/-- The tail: the first sector after the open sector that holds a valid record, else the open sector (R139). -/
def Journal.tail (j : Journal) : Nat := (j.ringOrder.find? (fun n => !(j.sector n).valid.isEmpty)).getD j.openSector

/-- Next sequence: newest committed + 1, or 0 on a journal that holds no record (R133). -/
def Journal.nextSequence (j : Journal) : Nat :=
  match j.newest with
  | some n => n + 1
  | none => 0

/-- Oldest retained: the tail's first sequence (R139), 0 on an empty journal (R152). -/
def Journal.oldest (j : Journal) : Nat := ((j.sector j.tail).first).getD j.nextSequence

/-- A party's release mark; FIELD has none. -/
def Journal.mark (j : Journal) : Party → Option Nat
  | .supply => j.markSupply
  | .premises => j.markPremises
  | .field => none

/-- A party's release mark replaced; FIELD has none. -/
def Journal.setMark (j : Journal) (q : Party) (m : Option Nat) : Journal :=
  match q with
  | .supply => { j with markSupply := m }
  | .premises => { j with markPremises := m }
  | .field => j

/-- Whether a settings entry is a PROFILE entry (R148). -/
def isProfile : Setting → Bool
  | .profile _ _ => true
  | .epoch _ _ | .mark _ _ => false

/-- Whether a settings entry is an EPOCH entry (R148). -/
def isEpoch : Setting → Bool
  | .epoch _ _ => true
  | .profile _ _ | .mark _ _ => false

/-- Whether a settings entry is a party's MARK entry (R148). -/
def isMarkOf (q : Party) : Setting → Bool
  | .mark q' _ => decide (q' = q)
  | .profile _ _ | .epoch _ _ => false

/-- A party's current MARK entry; FIELD has none. -/
def Journal.curMark (j : Journal) : Party → Option Setting
  | .supply => j.curMarkSupply
  | .premises => j.curMarkPremises
  | .field => none

/-- A party's current MARK entry replaced; FIELD has none. -/
def Journal.setCurMark (j : Journal) (q : Party) (e : Option Setting) : Journal :=
  match q with
  | .supply => { j with curMarkSupply := e }
  | .premises => { j with curMarkPremises := e }
  | .field => j

/-- Whether a sequence number lies below a party's mark. -/
def Journal.releasedBy (j : Journal) (seq : Nat) (q : Party) : Bool :=
  match j.mark q with
  | some m => decide (seq < m)
  | none => false

/-- Whether a sequence number lies below the mark of every enrolled party (R139). -/
def Part.released (p : Part) (seq : Nat) : Bool :=
  Party.list.all (fun q => !p.profile.inForce.isEnrolled q || p.journal.releasedBy seq q)

/-- Whether a record's recorded age has reached the retention age (R139). -/
def Part.aged (p : Part) (seconds : Nat) : Bool := decide (seconds + p.profile.inForce.retentionSeconds ≤ p.nowSeconds)

/-- Whether a valid record may leave the journal (R139). -/
def Part.mayLeave (p : Part) (r : Stored) : Bool := p.released r.seq || p.aged r.seconds

/-- Whether the tail is reclaimable (R139). -/
def Part.reclaimable (p : Part) : Bool :=
  decide (p.journal.tail ≠ p.journal.openSector) && (p.journal.sector p.journal.tail).valid.all p.mayLeave

/-- The journal state replaced. -/
def Part.setJournalState (p : Part) (s : JournalState) : Part := { p with journal := { p.journal with state := s } }

/-- BLOCKED entered, JOURNAL_BLOCKED raised to all ports (R143). -/
def Part.enterBlocked (p : Part) : Part := (p.setJournalState .blocked).raiseAll .journalBlocked .blocked

/-- Whether an evaluation decides anything: no spare, no erase called for or in progress, not FAULTED (R140). -/
def Part.evaluationDecides (p : Part) : Bool :=
  !p.journal.spare && (decide (p.journal.state = .writing) || decide (p.journal.state = .blocked))

/-- The tail evaluated for reclaim (R140, R143). -/
def Part.evaluateTail (p : Part) : Part :=
  if p.evaluationDecides then
    if p.reclaimable then p.setJournalState .erasing
    else if p.journal.writeSlot < sectorSlots || p.isBlocked then p
    else p.enterBlocked
  else p

/-- The used-up sector FULL and the spare OPEN (R138). -/
def Journal.advance (j : Journal) : Journal :=
  let next := sectorAfter j.openSector
  { (j.setSector j.openSector { j.sector j.openSector with state := .full }).setSector next ⟨.isOpen, [], []⟩ with
    openSector := next, writeSlot := 0 }

/-- The writer moves on into the spare and the tail is evaluated (R138). -/
def Part.moveOn (p : Part) : Part := { p with journal := { p.journal.advance with state := .writing } }.evaluateTail

/-- The open sector used up: move on when a spare exists, else the tail is evaluated (R138). -/
def Part.usedUp (p : Part) : Part := if p.journal.spare then p.moveOn else p.evaluateTail

/-- Marks lifted at an erase to the new oldest retained, RECORDS_EXPIRED_UNRELEASED noticed to the party (R142). -/
def Part.liftMark (p : Part) (q : Party) : Part :=
  match p.journal.mark q with
  | some m =>
    if m < p.journal.oldest then
      { p with journal := p.journal.setMark q (some p.journal.oldest) }.raiseAt q .recordsExpired (.number p.journal.oldest)
    else p
  | none => p

/-- Every enrolled party's mark lifted where R142 requires. -/
def Part.liftMarks (p : Part) : Part := (p.liftMark .supply).liftMark .premises

/-- The marks at an adoption: a newly enrolled party takes the oldest retained, a dropped one loses its mark; its MARK entry stays in the log (R145, R168). -/
def Journal.enrol (j : Journal) (old new : Profile) (q : Party) : Journal :=
  match old.isEnrolled q, new.isEnrolled q with
  | false, true => j.setMark q (some j.oldest)
  | true, false => j.setMark q none
  | true, true | false, false => j

end Sys2Proof.Machine
end

