-- ==== Sys2Proof/Machine/Intervals.lean ====
section
/-! DEFINITION. The interval aggregator: the grid, accumulation, the INTERVAL record, gaps and short intervals (spec 05). -/

namespace Sys2Proof.Machine

/-- A value kept as a minimum (R81). -/
def lowerOf (u : Option Nat) (low : Option Nat) : Option Nat :=
  match u, low with
  | none, l => l
  | some u, none => some u
  | some u, some l => some (if u < l then u else l)

/-- A value kept as a maximum (R81). -/
def higherOf (u : Option Nat) (high : Option Nat) : Option Nat :=
  match u, high with
  | none, h => h
  | some u, none => some u
  | some u, some h => some (if h < u then u else h)

/-- A channel's half-cycle sum, 0 without an entry. -/
def ValueSet.sum (vs : ValueSet) (c : Chan) : Nat := ((vs.entries.get c).map ChanValue.sum).getD 0

/-- A channel's clip count, 0 without an entry. -/
def ValueSet.clip (vs : ValueSet) (c : Chan) : Nat := ((vs.entries.get c).map ChanValue.clip).getD 0

/-- A half-cycle added whole to the open interval (R81). -/
def Aggregator.assign (a : Aggregator) (vs : ValueSet) (wasFlagged : Bool) : Aggregator :=
  let n := vs.result.length
  { a with
    halfCycles := a.halfCycles + 1
    sumS := Tri.build (fun c => a.sumS.get c + vs.sum c)
    sumN := Tri.build (fun c => if vs.inUse.get c then a.sumN.get c + n else a.sumN.get c)
    low := Tri.build (fun c => lowerOf (vs.value c) (a.low.get c))
    high := Tri.build (fun c => higherOf (vs.value c) (a.high.get c))
    lockedH := if vs.result.locked then a.lockedH + 1 else a.lockedH
    lockedN := if vs.result.locked then a.lockedN + n else a.lockedN
    flags := { a.flags with
      flagged := a.flags.flagged || wasFlagged
      freeRunning := a.flags.freeRunning || vs.result.freeRunning
      overRange := a.flags.overRange || vs.anyOverRange || vs.inUse.any (fun c => decide (vs.clip c ≠ 0)) } }

/-- A channel's block: present for an in-use channel with a minimum (R83, R86). -/
def Aggregator.block (a : Aggregator) (pr : Profile) (c : Chan) : Option ChannelBlock :=
  match a.low.get c with
  | some low =>
    if pr.inUse.get c then some ⟨rmsValue (a.sumS.get c) (a.sumN.get c) (pr.gain c), low, (a.high.get c).getD low⟩ else none
  | none => none

/-- Whether an in-use channel's interval value met the limit (R83). -/
def Aggregator.limited (a : Aggregator) (pr : Profile) : Bool :=
  pr.inUse.any (fun c => (a.low.get c).isSome && rmsLimited (a.sumS.get c) (a.sumN.get c) (pr.gain c))

/-- The frequency in millihertz; absent without a locked half-cycle (R84). -/
def frequency (h n : Nat) : Option Nat := if h = 0 then none else some ((10240000 * h + n) / (2 * n))

/-- The INTERVAL record's payload of the open interval (R86); `withheld` is the commit path's count. -/
def Aggregator.record (a : Aggregator) (pr : Profile) (withheld : Nat) : IntervalRecord where
  index := a.index
  start := a.start
  halfCycles := a.halfCycles
  blocks := Tri.build (a.block pr)
  frequency := frequency a.lockedH a.lockedN
  withheld := if withheld = 0 then none else some withheld
  flags := { a.flags with overRange := a.flags.overRange || a.limited pr }

/-- The open interval's record built, timestamped `frame` and handed on, and the interval close signalled to both blocks (R86, R87). The
record's admission comes first, the recurrence table's ageing next and the tail's evaluation last (log entry 8, DESIGN CHOICE). -/
def Part.closeInterval (p : Part) (frame : Nat) : Part :=
  let r := p.buildRec .recorder frame (.interval (p.aggregator.record p.profile.inForce p.commit.withheld))
  ((p.handInterval r).ageTable frame).evaluateTail

/-- Whether the last missing frame lies at or past a start frame (R82, R85). -/
def reachesInto (lastMissing : Option Nat) (start : Nat) : Bool :=
  match lastMissing with
  | some m => decide (start ≤ m)
  | none => false

/-- The interval of the grid position that holds a boundary frame (R79, R82). -/
def gridInterval (pr : Profile) (boundary : Nat) (lastMissing : Option Nat) : Aggregator :=
  let k := boundary / pr.intervalFrames
  openInterval pr k (k * pr.intervalFrames) ⟨false, reachesInto lastMissing (k * pr.intervalFrames), false, false, false⟩ lastMissing

/-- The open interval over at a boundary: its record built, the boundary's grid position opened (R79). -/
def Part.closeGrid (p : Part) (boundary : Nat) : Part :=
  { p.closeInterval boundary with aggregator := gridInterval p.profile.inForce boundary p.aggregator.lastMissing }

/-- Whether a boundary frame is at or past the open interval's end (R79). -/
def Aggregator.isOver (a : Aggregator) (boundary : Nat) : Bool := decide (a.stop ≤ boundary)

/-- A half-cycle assigned to the open interval (R81). -/
def Part.assign (p : Part) (vs : ValueSet) (o : Outcome) : Part := { p with aggregator := p.aggregator.assign vs o.flagged }

/-- A gap indication at the aggregator (R82). -/
def Aggregator.gap (a : Aggregator) (first count : Nat) : Aggregator :=
  { a with flags := { a.flags with gap := a.flags.gap || decide (first < a.stop) }, lastMissing := some (first + count - 1) }

/-- The open interval marked *short*. -/
def Aggregator.markShort (a : Aggregator) : Aggregator := { a with flags := { a.flags with short := true } }

/-- The *short* interval an adoption opens under the new profile (R85). -/
def adoptionInterval (pr : Profile) (frame : Nat) (lastMissing : Option Nat) : Aggregator :=
  openInterval pr ((frame + 1) / pr.intervalFrames) (frame + 1)
    ⟨false, reachesInto lastMissing (frame + 1), false, false, true⟩ lastMissing

/-- The open interval closed by SUPPLY-FAIL: *short*, and *gap* when the receiver was LOST (R89). -/
def Part.failInterval (p : Part) : Part :=
  let a := p.aggregator.markShort
  let a := if p.receiver.acq = .lost then { a with flags := { a.flags with gap := true } } else a
  { p with aggregator := a }.closeInterval p.nowFrame

end Sys2Proof.Machine
end

