-- ==== Sys2Proof/Machine/RvcMonitor.lean ====
section
/-! DEFINITION. The RVC monitor: windows, steadiness, candidates (spec 04, section 4.1). -/

namespace Sys2Proof.Machine

/-- The largest count since start (R63). -/
def candidateLimit : Nat := 6000

/-- The values of a channel in the windows, oldest first. -/
def windowOf (w : List WindowEntry) (c : Chan) : List Nat := w.map (fun e => e.u.get c)

/-- A window's mean: floor(window sum / W) (R57). -/
def windowMean (width : Nat) (w : List WindowEntry) (c : Chan) : Nat := (windowOf w c).sum / width

/-- A channel's window steady: W values, each within Trvc of the mean (R57). -/
def windowSteady (width band : Nat) (w : List WindowEntry) (c : Chan) : Bool :=
  decide (w.length = width) && (windowOf w c).all (fun u => decide (absDiff u (windowMean width w c) ≤ band))

/-- Every in-use channel's window full and steady (R60, R63). -/
def allSteady (inUse : ChanSet) (width band : Nat) (w : List WindowEntry) : Bool := inUse.every (windowSteady width band w)

/-- A value set entered at the newest end of every window; the oldest leaves when W values are held (R60). -/
def slideIn (width : Nat) (w : List WindowEntry) (e : WindowEntry) : List WindowEntry :=
  if width ≤ w.length then w.drop 1 ++ [e] else w ++ [e]

/-- A value set as the windows hold it. -/
def entryOf (vs : ValueSet) : WindowEntry := ⟨Tri.build (fun c => (vs.value c).getD 0), vs.result.start⟩

/-- The deviations of a value set from per-channel means, for the in-use channels with a value (R61, R62). -/
def deviations (vs : ValueSet) (means : Tri Nat) : Tri (Option Nat) :=
  Tri.build (fun c => (vs.value c).map (fun u => absDiff u (means.get c)))

/-- The channels whose deviation exceeds Trvc (R61, R62). -/
def beyond (band : Nat) (d : Tri (Option Nat)) : ChanSet :=
  Tri.build (fun c => match d.get c with | some n => decide (band < n) | none => false)

/-- Strictly greater. -/
def greater (new old : Nat) : Bool := decide (old < new)

/-- The monitor in STEADY_WAIT with its windows emptied (R59, R64). -/
def Rvc.restarted : Rvc := resetRvc

/-- The fold machine told that the candidate is gone: start distance NONE (R70). -/
def Part.forgetCandidate (p : Part) : Part :=
  if p.rvc.mode = .candidate then p.setFold .rvc { p.folds.rvc with startDistance := none } else p

/-- To STEADY_WAIT with the windows emptied; a candidate is discarded (R59, R64). -/
def Part.rvcRestart (p : Part) : Part := { p.forgetCandidate with rvc := Rvc.restarted }

/-- A candidate begun at a value set (R61, R70). -/
def Part.rvcBegin (p : Part) (vs : ValueSet) (means : Tri Nat) : Part :=
  let d := deviations vs means
  let best := (pickBest greater d none).getD (0, .c1)
  let rvc : Rvc := {
    mode := .candidate, window := [], preMean := means, uMax := best.1, uMaxChan := best.2, start := vs.result.boundary,
    count := 0, affected := beyond p.engine.levels.rvcBand d, flags := ⟨false, vs.anyOverRange, vs.result.freeRunning⟩ }
  { p with rvc := rvc }.setFold .rvc { p.folds.rvc with startDistance := p.folds.rvc.sinceEnd }

/-- A value set in STEADY (R61). -/
def Part.rvcSteady (p : Part) (vs : ValueSet) : Part :=
  let means := Tri.build (windowMean p.profile.inForce.rvcWindow.toNat p.rvc.window)
  if vs.inUse.any (beyond p.engine.levels.rvcBand (deviations vs means)).get then p.rvcBegin vs means
  else { p with rvc := { p.rvc with window := slideIn p.profile.inForce.rvcWindow.toNat p.rvc.window (entryOf vs) } }

/-- A value set in STEADY_WAIT (R60). -/
def Part.rvcWait (p : Part) (vs : ValueSet) : Part :=
  let width := p.profile.inForce.rvcWindow.toNat
  let w := slideIn width p.rvc.window (entryOf vs)
  let steady := allSteady vs.inUse width p.engine.levels.rvcBand w
  { p with rvc := { p.rvc with window := w, mode := if steady then .steady else .steadyWait } }

/-- A value set with *no-value* on some channel, in CANDIDATE (R62). -/
def Rvc.passOver (r : Rvc) (freeRunning : Bool) : Rvc :=
  { r with count := r.count + 1, flags := { r.flags with freeRunning := r.flags.freeRunning || freeRunning } }

/-- A value set in CANDIDATE, before the end test (R62). -/
def Rvc.follow (r : Rvc) (vs : ValueSet) (width band : Nat) : Rvc :=
  let d := deviations vs r.preMean
  let best := (pickBest greater d (some (r.uMax, r.uMaxChan))).getD (r.uMax, r.uMaxChan)
  { r with
    count := r.count + 1
    uMax := best.1
    uMaxChan := best.2
    affected := r.affected.union (beyond band d)
    flags := { r.flags with overRange := r.flags.overRange || vs.anyOverRange
                            freeRunning := r.flags.freeRunning || vs.result.freeRunning }
    window := slideIn width r.window (entryOf vs) }

/-- ΔUss: the largest distance of a new mean from its pre-change mean over the in-use channels (R63). -/
def settledChange (inUse : ChanSet) (width : Nat) (r : Rvc) : Nat :=
  (Chan.list.map (fun c => if inUse.get c then absDiff (windowMean width r.window c) (r.preMean.get c) else 0)).foldl max 0

/-- The end frame of an RVC: the start frame of the oldest value's half-cycle (R63). -/
def Rvc.endFrame (r : Rvc) : Nat := (r.window.head?.map WindowEntry.start).getD 0

/-- The half-cycle count of an RVC: the count since start less W plus 1 (R63). -/
def Rvc.length (r : Rvc) (width : Nat) : Nat := r.count + 1 - width

/-- The EVENT record's payload of an RVC (R66). -/
def rvcPayload (r : Rvc) (inUse : ChanSet) (width number : Nat) : EventRecord where
  subType := .rvc
  number := number
  start := r.start
  stop := some r.endFrame
  halfCycles := r.length width
  extreme := r.uMax
  extremeChan := r.uMaxChan
  uss := some (settledChange inUse width r)
  chans := r.affected
  flags := ⟨r.flags.spansGap, r.flags.overRange, r.flags.freeRunning, false, false, false, false, false⟩
  linked := none
  serial := none
  recurrence := none

/-- What a folded RVC hands its fold machine (R71). -/
def rvcEnding (r : Rvc) (width : Nat) : Ending where
  start := r.start
  stop := some r.endFrame
  halfCycles := r.length width
  extreme := r.uMax
  extremeChan := r.uMaxChan
  chans := r.affected
  flags := ⟨r.flags.spansGap, r.flags.overRange, r.flags.freeRunning, false, false⟩

/-- The RVC fold machine after an RVC's end: since last end W, start distance NONE, a folded RVC merged (R68, R70, R71). -/
def Fold.rvcEnded (f : Fold) (width : Nat) (folded : Option Ending) : Fold :=
  { f.ended .rvc width folded with startDistance := none }

/-- An RVC ended: the fold decision, the number and EVENT record of a recorded one, the monitor STEADY with its windows kept
(R63, R66, R70). -/
def Part.rvcEnd (p : Part) (vs : ValueSet) : Part :=
  let width := p.profile.inForce.rvcWindow.toNat
  let r := p.rvc
  let decided := p.foldDecision .rvc p.folds.rvc.startDistance
  let q := { decided.2 with rvc := { resetRvc with mode := .steady, window := r.window } }
  if decided.1 then q.setFold .rvc (q.folds.rvc.rvcEnded width (some (rvcEnding r width)))
  else
    let n := q.drawNumber.1
    let q := q.drawNumber.2.setFold .rvc (q.folds.rvc.rvcEnded width none)
    q.handRecord (q.buildRec .recorder vs.result.boundary (.event (rvcPayload r vs.inUse width n)))

/-- A value set in CANDIDATE with a value on every channel (R62, R63). -/
def Part.rvcFollow (p : Part) (vs : ValueSet) : Part :=
  let width := p.profile.inForce.rvcWindow.toNat
  let q := { p with rvc := p.rvc.follow vs width p.engine.levels.rvcBand }
  if allSteady vs.inUse width q.engine.levels.rvcBand q.rvc.window then q.rvcEnd vs else q

/-- A value set handled whole with the classifier's outcome (R59). -/
def Part.rvcHandle (p : Part) (vs : ValueSet) (o : Outcome) : Part :=
  if o.openedDipSwell || o.openDipSwell || o.endedDipSwell then p.rvcRestart
  else if vs.someMissing then
    (if p.rvc.mode = .candidate then { p with rvc := p.rvc.passOver vs.result.freeRunning } else p)
  else
    match p.rvc.mode with
    | .steadyWait => p.rvcWait vs
    | .steady => p.rvcSteady vs
    | .candidate => p.rvcFollow vs

/-- Whether a candidate has reached its limit without an end (R63, R64). -/
def Part.candidateDue (p : Part) : Bool := decide (p.rvc.mode = .candidate) && decide (candidateLimit ≤ p.rvc.count) && !p.failing

/-- The candidate's discard at its limit, when it is due (R64). -/
def Part.settleCandidate (p : Part) : Part := if p.candidateDue then p.rvcRestart else p

/-- A gap indication at the monitor (R65). -/
def Rvc.gap (r : Rvc) : Rvc :=
  match r.mode with
  | .candidate => { r with window := [], flags := { r.flags with spansGap := true } }
  | .steadyWait | .steady => { r with mode := .steadyWait, window := [] }

end Sys2Proof.Machine
end

