-- ==== Sys2Proof/Machine/Adoption.lean ====
section
/-! DEFINITION. Settings work added, and the adoption of a profile (spec 10, sections 10.4 and 10.5). -/

namespace Sys2Proof.Machine

/-! ## Settings work (R148, R149) -/

/-- A settings entry added to the pending settings work. While the journal is FAULTED it is discarded, and a PROFILE record that waits
for it is handed over at once (R137, R166). -/
def Part.addSetting (p : Part) (e : PendingSetting) : Part :=
  if p.isFaulted then
    match e.record with
    | some r => p.handRecord r
    | none => p
  else { p with journal := { p.journal with pendingSettings := p.journal.pendingSettings ++ [e] } }

/-- A MARK entry for a newly enrolled party added, carrying its mark (R145). -/
def Part.addEnrolmentMark (p : Part) (old : Profile) (q : Party) : Part :=
  if p.profile.inForce.isEnrolled q && !old.isEnrolled q then
    match p.journal.mark q with
    | some m => p.addSetting ⟨.mark q m, false, false, none⟩
    | none => p
  else p

/-! ## Taking up a profile (R167) -/

/-- RESYNC entered with a given active reference (R12). -/
def Tracker.resync (t : Tracker) (active : Chan) : Tracker :=
  { t with mode := .resync, active := active, openHalf := none, framesWaited := 0, arm := Tri.all .none, crossed := ChanSet.empty,
           lastCrossed := ChanSet.empty, lengthRun := 0, spellCount := 0, refRun := 0, ret := .none }

/-- A changed commit weight sets the credit counter to 0 (R126). -/
def Commit.adopt (c : Commit) (old new : Profile) : Commit :=
  if old.commitWeight = new.commitWeight then c else { c with credit := 0 }

/-- The new profile in force with its number, and every block's uptake of it (R166 steps 5 and 6, R167, R168). -/
def Part.takeUp (p : Part) (new : Profile) (frame : Nat) (forced : Bool) : Part :=
  let old := p.profile.inForce
  { p with
    profile := { p.profile with inForce := new, number := nextNumber p.profile.number }
    tracker := p.tracker.resync new.refChan
    engine := p.engine.adopt new
    classifier := p.classifier.adopt forced old.inUse new.inUse
    rvc := resetRvc
    aggregator := adoptionInterval new frame p.aggregator.lastMissing
    commit := p.commit.adopt old new
    journal := (p.journal.enrol old new .supply).enrol old new .premises }

/-! ## The conditions that defer (R164) -/

/-- Whether a proposal changes the enrolled parties or the retention age. -/
def changesReclaim (old new : Profile) : Bool := decide (old.enrolled ≠ new.enrolled) || decide (old.retention ≠ new.retention)

/-- The conditions of R164 as they hold now. -/
def Part.deferConditions (p : Part) (new : Profile) : DeferConditions where
  eventOpen := p.classifier.anyOpen
  candidate := decide (p.rvc.mode = .candidate)
  blocked := p.isBlocked
  erasePending := changesReclaim p.profile.inForce new && p.isErasing

/-- Whether any condition holds. -/
def DeferConditions.any (d : DeferConditions) : Bool := d.eventOpen || d.candidate || d.blocked || d.erasePending

/-! ## Adoption (R166) -/

/-- Step 1, when forced: open events closed, a candidate discarded (R53, R64). -/
def Part.forceEnd (p : Part) (frame : Nat) (forced : Bool) : Part := if forced then (p.forceClose frame).forgetCandidate else p

/-- Step 3: the open interval closed *short* under the profile being replaced, which ages the recurrence table and evaluates the tail
(R85, R87, R96, R140). -/
def Part.adoptionClose (p : Part) (frame : Nat) : Part := { p with aggregator := p.aggregator.markShort }.closeInterval frame

/-- Step 4: the recurrence table cleared when a signature field changes (R97). -/
def Part.clearTable (p : Part) (new : Profile) : Part :=
  if signatureFieldsDiffer p.profile.inForce new then { p with recurrence := p.recurrence.clear } else p

/-- Step 6, the journal controller's part: an erase that step 3 has called for under the old marks and retention age is withdrawn when the
adoption changes them, the journal state being again the one the adoption found, so that step 9 decides under the new ones (R141, R164,
R165, R168). A journal found BLOCKED is so again without having entered BLOCKED anew, and JOURNAL_BLOCKED is not raised (R143, R187). Both
are the MODEL's choice (log entry 43, DESIGN CHOICE). -/
def Part.withdrawErase (p : Part) (old : Profile) (found : JournalState) : Part :=
  if changesReclaim old p.profile.inForce && p.isErasing then p.setJournalState found else p

/-- The PROFILE record's payload of an adoption (R166). -/
def adoptionPayload (number : Nat) (pr : Proposal) (forced : Bool) : Payload :=
  .profile number (some pr.proposer) pr.agreeing forced false pr.contents

/-- Steps 7 and 8: the PROFILE entry with its record added, then a MARK entry for each newly enrolled party (R145, R148, R166). -/
def Part.addAdoptionEntries (p : Part) (old : Profile) (pr : Proposal) (frame : Nat) (forced : Bool) : Part :=
  let r := p.buildRec .recorder frame (adoptionPayload p.profile.number pr forced)
  ((p.addSetting ⟨.profile p.profile.number pr.contents, false, false, some r⟩).addEnrolmentMark old .supply).addEnrolmentMark old .premises

/-- Step 10: the slot NONE, the adoption state IDLE, PROFILE_ADOPTED noticed (R166). -/
def Part.endAdoption (p : Part) : Part :=
  { p with profile := { p.profile with proposal := none, deferral := none } }.raiseAll .profileAdopted (.number p.profile.number)

/-- An adoption carried out, timed by `frame` (R166). -/
def Part.adopt (p : Part) (pr : Proposal) (frame : Nat) (forced : Bool) : Part :=
  let old := p.profile.inForce
  let found := p.journal.state
  let p := (p.forceEnd frame forced).closeFolds frame
  let p := (p.adoptionClose frame).clearTable pr.contents
  let p := (p.takeUp pr.contents frame forced).withdrawErase old found
  ((p.addAdoptionEntries old pr frame forced).evaluateTail).endAdoption

/-- The adoption wait limit in milliseconds (R165). -/
def waitLimit : Nat := 60000

/-- A consented proposal whose wait limit has passed (R165). -/
def Part.overdue (p : Part) : Option Proposal :=
  match p.profile.deferral with
  | some d => if d.start + waitLimit ≤ p.localTime then p.profile.proposal else none
  | none => none

/-- Whether the forced adoption must wait for the completion of an erase (R165). -/
def Part.waitsForErase (p : Part) (pr : Proposal) : Bool := changesReclaim p.profile.inForce pr.contents && p.isErasing

/-- The forced adoption of an overdue proposal (R165). -/
def Part.forceAdoption (p : Part) : Part :=
  match p.overdue with
  | some pr => p.adopt pr p.nowFrame true
  | none => p

/-- The adoption at a quiet boundary (R164): the quiet closes and a candidate's timeout of that boundary come first. -/
def Part.boundaryAdoption (p : Part) (boundary : Nat) : Part :=
  match p.profile.deferral, p.profile.proposal with
  | some _, some pr =>
    let q := p.settleCandidate.settleFolds
    if (q.deferConditions pr.contents).any then q else q.adopt pr boundary false
  | _, _ => p

end Sys2Proof.Machine
end

