-- ==== Sys2Proof/Machine/CycleTracker.lean ====
section
/-! DEFINITION. The cycle tracker: crossings, boundaries, free run, rotation, return (spec 01, section 1.3), what a boundary sets off, and the steps a delivered frame makes due. -/

namespace Sys2Proof.Machine

/-! ## An order the spec leaves open -/

/-- Two orders of the same work: where they differ in what they leave, a free value chooses (log entry 7, DESIGN CHOICE). -/
def Part.either (p : Part) (a b : Part → Part) : Part :=
  if a p = b p then a p else if p.freeOrder.1 then a p.freeOrder.2 else b p.freeOrder.2

/-! ## Crossings (R11) -/

/-- A high sample. -/
def isHigh (h : Nat) (x : Sample) : Bool := decide ((h : Int) ≤ x.toInt) && decide (1 ≤ x.toInt)

/-- A low sample. -/
def isLow (h : Nat) (x : Sample) : Bool := decide (x.toInt ≤ -(h : Int)) && decide (x.toInt ≤ -1)

/-- The arm after a sample. -/
def armAfter (h : Nat) (x : Sample) (a : Arm) : Arm := if isHigh h x then .high else if isLow h x then .low else a

/-- Whether a sample crosses: high on arm LOW, or low on arm HIGH. -/
def crosses (h : Nat) (x : Sample) (a : Arm) : Bool := (isHigh h x && decide (a = .low)) || (isLow h x && decide (a = .high))

/-- The channels that cross at a frame; channels not in use are not tested. -/
def crossings (pr : Profile) (samples : Tri Sample) (arm : Tri Arm) : ChanSet :=
  Tri.build (fun c => pr.inUse.get c && crosses pr.crossHyst.toNat (samples.get c) (arm.get c))

/-- The arms after a frame; the arms of channels not in use are NONE. -/
def armsAfter (pr : Profile) (samples : Tri Sample) (arm : Tri Arm) : Tri Arm :=
  Tri.build (fun c => if pr.inUse.get c then armAfter pr.crossHyst.toNat (samples.get c) (arm.get c) else .none)

/-! ## Lengths (R12 to R14, R17) -/

/-- The shortest half-cycle a crossing closes (R13). -/
def shortestHalf : Nat := 64

/-- The longest half-cycle, and the frames RESYNC and the seam wait (R12, R13, R17). -/
def longestHalf : Nat := 128

/-- The length of the open half-cycle at a frame. -/
def OpenHalf.length (h : OpenHalf) (frame : Nat) : Nat := frame - h.start

/-! ## A boundary (R13 to R16, R18) -/

/-- The half-cycle result (R18). -/
def halfCycleOf (t : Tracker) (h : OpenHalf) (frame : Nat) (closure : Closure) : HalfCycle where
  start := h.start
  boundary := frame
  length := h.length frame
  forced := decide (closure = .forced)
  freeRunning := decide (t.mode = .freeRunning)
  substituted := h.substituted
  locked := decide (closure = .crossing) && decide (h.openedBy = some t.active)
  closure := closure

/-- The reference run at a boundary (R16). -/
def Tracker.countReference (t : Tracker) (ref : Chan) : Tracker :=
  { t with refRun := if t.crossed.get ref then satAdd 255 t.refRun 1 else 0 }

/-- The last crossed set taken and the crossed flags cleared (R18). -/
def Tracker.turn (t : Tracker) : Tracker := { t with lastCrossed := t.crossed, crossed := ChanSet.empty }

/-- A new half-cycle opened at a frame. -/
def Tracker.openAt (t : Tracker) (frame : Nat) (opener : Option Chan) : Tracker := { t with openHalf := some ⟨frame, false, opener⟩ }

/-- The return becomes PENDING when the tracker is LOCKED away from a profile reference that has been alive for 8 half-cycles (R16). -/
def Tracker.testReturn (t : Tracker) (ref : Chan) : Tracker :=
  if t.mode = .locked ∧ t.active ≠ ref ∧ t.ret = .none ∧ 8 ≤ t.refRun then { t with ret := .pending } else t

/-- A TRACKING record's payload (R19). -/
def trackingPayload (cause : TrackingCause) (old new : Chan) (count : Nat) : Payload := .tracking cause old new count

/-- A crossing boundary: lock regained, a pending return applied, or the next half-cycle opened (R13, R14, R16). The answer is the
tracker after it and the TRACKING record's payload, if any. -/
def Tracker.crossingBoundary (t : Tracker) (ref : Chan) (frame : Nat) : Tracker × Option Payload :=
  let u := ({ t with lengthRun := 0 }.countReference ref).turn
  match t.mode with
  | .freeRunning =>
    (({ u with mode := .locked }.openAt frame (some t.active)).testReturn ref,
      some (trackingPayload .lockRegained t.spellRef t.active t.spellCount))
  | .locked | .resync =>
    if t.ret = .pending then
      ({ u with active := ref, ret := .seam, openHalf := none, framesWaited := 0 },
        some (trackingPayload .referenceReturned t.active ref 0))
    else ((u.openAt frame (some t.active)).testReturn ref, none)

/-- A forced boundary: FREE_RUNNING entered, a pending return dropped (R13, R16). -/
def Tracker.forcedBoundary (t : Tracker) (ref : Chan) (frame : Nat) : Tracker × Option Payload :=
  let u := (t.countReference ref).turn
  ({ u with lengthRun := 1, spellCount := 1, spellRef := t.active, mode := .freeRunning, ret := .none }.openAt frame none,
    some (trackingPayload .freeRunEntered t.active t.active 1))

/-- The rotation at the fourth boundary set by length (R15). -/
def Tracker.rotate (t : Tracker) (inUse : ChanSet) : Tracker :=
  if 4 ≤ t.lengthRun then { t with active := inUse.nextAfter t.active, lengthRun := 0 } else t

/-- A free-run boundary (R14, R15). -/
def Tracker.freeRunBoundary (t : Tracker) (inUse : ChanSet) (ref : Chan) (frame : Nat) : Tracker × Option Payload :=
  let u := (t.countReference ref).turn
  (({ u with lengthRun := t.lengthRun + 1, spellCount := satAdd 65535 t.spellCount 1 }.rotate inUse).openAt frame none, none)

/-- The tracker after a boundary of a kind, and its record's payload. -/
def Tracker.boundary (t : Tracker) (pr : Profile) (frame : Nat) : Closure → Tracker × Option Payload
  | .crossing => t.crossingBoundary pr.refChan frame
  | .forced => t.forcedBoundary pr.refChan frame
  | .freeRun => t.freeRunBoundary pr.inUse pr.refChan frame

/-! ## What a boundary sets off (R22, R27, R48) -/

/-- A value set at the classifier, the RVC monitor and the aggregator, an interval that is over being closed before the classifier or
after the RVC monitor (R27; log entry 7, DESIGN CHOICE). -/
def Part.measure (vs : ValueSet) (closeFirst : Bool) (p : Part) : Part :=
  let isOver := p.aggregator.isOver vs.result.boundary
  let p := if isOver && closeFirst then p.closeGrid vs.result.boundary else p
  let classified := p.classify vs
  let p := classified.2.rvcHandle vs classified.1
  let p := if isOver && !closeFirst then p.closeGrid vs.result.boundary else p
  p.assign vs classified.1

/-- A half-cycle result at the value engine, its value set formed and handed on (R22, R27). -/
def Part.valueSet (r : HalfCycle) (p : Part) : Part :=
  let vs := p.engine.valueSet p.profile.inForce r
  { p with engine := p.engine.close vs }.either (Part.measure vs true) (Part.measure vs false)

/-- A TRACKING record handed on with a boundary's result, in either order (R19; log entry 7, DESIGN CHOICE). -/
def Part.emit (p : Part) (r : HalfCycle) (record : Option Payload) : Part :=
  match record with
  | none => p.valueSet r
  | some payload =>
    let rec_ := p.buildRec .recorder r.boundary payload
    p.either (fun q => (q.handRecord rec_).valueSet r) (fun q => (q.valueSet r).handRecord rec_)

/-- A boundary at a frame: the half-cycle closed, its result emitted, then the adoption test (R13 to R18, R164). -/
def Part.boundary (p : Part) (h : OpenHalf) (frame : Nat) (closure : Closure) : Part :=
  let r := halfCycleOf p.tracker h frame closure
  let after := p.tracker.boundary p.profile.inForce frame closure
  ({ p with tracker := after.1 }.emit r after.2).boundaryAdoption frame

/-! ## Boundaries set by length, and waits that run out -/

/-- A half-cycle opened by a wait that ran out at the 128th frame, in RESYNC or the seam; no boundary has yet been set by length
(R12, R17). -/
def Tracker.freeRunFromWait (t : Tracker) (frame : Nat) : Tracker :=
  { t with mode := .freeRunning, lengthRun := 0, spellCount := 0, spellRef := t.active, ret := .none }.openAt frame none

/-- FREE_RUNNING entered from RESYNC or the seam with its TRACKING record (R12, R17, R19). -/
def Part.freeRunFromWait (p : Part) : Part :=
  let frame := p.receiver.frameIndex
  let r := p.buildRec .recorder frame (trackingPayload .freeRunEntered p.tracker.active p.tracker.active 0)
  { p with tracker := p.tracker.freeRunFromWait frame }.handRecord r

/-- RESYNC has waited 128 frames (R12). -/
def Part.resyncDue (p : Part) : Bool := decide (p.tracker.mode = .resync) && decide (longestHalf ≤ p.tracker.framesWaited)

/-- The return seam has waited 128 frames (R17). -/
def Part.seamDue (p : Part) : Bool := decide (p.tracker.ret = .seam) && decide (longestHalf ≤ p.tracker.framesWaited)

/-- The open half-cycle when its length at the most recently delivered frame has reached `n` in a tracker state. -/
def Part.halfDue (p : Part) (mode : TrackerMode) (n : Nat) : Option OpenHalf :=
  match p.tracker.openHalf with
  | some h => if p.tracker.mode = mode ∧ n ≤ h.length p.receiver.frameIndex then some h else none
  | none => none

/-- The half-cycle a forced boundary closes (R13). -/
def Part.forcedDue (p : Part) : Option OpenHalf := p.halfDue .locked longestHalf

/-- The half-cycle a free-run boundary closes (R14). -/
def Part.freeRunDue (p : Part) : Option OpenHalf := p.halfDue .freeRunning p.profile.inForce.freeRunLength

/-- The RESYNC timeout when it is due (R12). -/
def Part.settleResync (p : Part) : Part := if p.resyncDue then p.freeRunFromWait else p

/-- The seam timeout when it is due (R17). -/
def Part.settleSeam (p : Part) : Part := if p.seamDue then p.freeRunFromWait else p

/-- The forced boundary when it is due (R13). -/
def Part.settleForced (p : Part) : Part :=
  match p.forcedDue with
  | some h => p.boundary h p.receiver.frameIndex .forced
  | none => p

/-- The free-run boundary when it is due (R14). -/
def Part.settleFreeRun (p : Part) : Part :=
  match p.freeRunDue with
  | some h => p.boundary h p.receiver.frameIndex .freeRun
  | none => p

/-- Whether a boundary set by length or a wait that ran out is due. -/
def Part.lengthDue (p : Part) : Bool := p.resyncDue || p.seamDue || p.forcedDue.isSome || p.freeRunDue.isSome

/-- The one of them that is due. -/
def Part.settleLength (p : Part) : Part :=
  if p.resyncDue then p.settleResync
  else if p.seamDue then p.settleSeam
  else if p.forcedDue.isSome then p.settleForced
  else p.settleFreeRun

/-! ## Full slots and expiries -/

/-- One full slot handled when it is due (R107). -/
def Part.settleFull (p : Part) (i : Nat) : Part := if p.slotFullDue i then p.extendOrEnd i else p

/-- One expiry handled when it is due (R111). -/
def Part.settleExpiry (p : Part) (i : Nat) : Part := if p.expiryDue i then p.expire i else p

/-- The full slots that are due (R107), in ascending slot number (log entry 8, DESIGN CHOICE). -/
def Part.settleFulls (p : Part) : Part := (List.range 4).foldl Part.settleFull p

/-- The expiries that are due. -/
def Part.settleExpiries (p : Part) : Part := (List.range 4).foldl Part.settleExpiry p

/-- Whether a full slot is due. -/
def Part.anyFull (p : Part) : Bool := (List.range 4).any p.slotFullDue

/-- Whether an expiry is due. -/
def Part.anyExpiry (p : Part) : Bool := (List.range 4).any p.expiryDue

/-- Full slots and expiries that one frame made due, in either order (R103, R107; log entry 7, DESIGN CHOICE). -/
def Part.settleSlots (p : Part) : Part :=
  if p.anyFull && p.anyExpiry then p.either (fun q => q.settleFulls.settleExpiries) (fun q => q.settleExpiries.settleFulls)
  else p.settleFulls.settleExpiries

/-! ## All outstanding steps -/

/-- The boundary set by length and the capture unit's steps that one frame made due, in either order (R107; log entry 7, DESIGN CHOICE). -/
def Part.settleFrame (p : Part) : Part :=
  if p.lengthDue && (p.anyFull || p.anyExpiry) then
    p.either (fun q => q.settleLength.settleSlots) (fun q => q.settleSlots.settleLength)
  else if p.lengthDue then p.settleLength
  else p.settleSlots

/-- Every step the delivered frames have made due, taken before anything else happens (log entry 1, DESIGN CHOICE). -/
def Part.settle (p : Part) : Part := ((p.settleFrame).settleCandidate).settleFolds

/-! ## A delivered frame (R11 to R20) -/

/-- The open half-cycle marked by a substitute frame (R18). -/
def OpenHalf.mark (substituted : Bool) (h : OpenHalf) : OpenHalf := { h with substituted := h.substituted || substituted }

/-- The tracker's counts at a frame: arms, the crossed flags of an open half-cycle, frames waited outside one (R11, R12, R17). -/
def Tracker.observe (t : Tracker) (arms : Tri Arm) (crossed : ChanSet) (substituted : Bool) : Tracker :=
  match t.openHalf with
  | some h => { t with arm := arms, crossed := t.crossed.union crossed, openHalf := some (h.mark substituted) }
  | none => { t with arm := arms, framesWaited := min longestHalf (t.framesWaited + 1) }

/-- A crossing of the active reference with no half-cycle open: a half-cycle opens, LOCKED, the return NONE (R12, R17). -/
def Tracker.lockAt (t : Tracker) (frame : Nat) : Tracker := { t with mode := .locked, ret := .none }.openAt frame (some t.active)

/-- The frame at the engine: summed when it lies inside a half-cycle (R20). -/
def Part.sumFrame (p : Part) (samples : Tri Sample) : Part :=
  match p.tracker.openHalf with
  | some _ => { p with engine := p.engine.sumFrame p.inUse samples }
  | none => p

/-- A delivered frame at the tracker and the engine (R11 to R14, R17, R20). -/
def Part.track (samples : Tri Sample) (substituted : Bool) (p : Part) : Part :=
  let frame := p.receiver.frameIndex
  let pr := p.profile.inForce
  let crossed := crossings pr samples p.tracker.arm
  let p := p.sumFrame samples
  let p := { p with tracker := p.tracker.observe (armsAfter pr samples p.tracker.arm) crossed substituted }
  if crossed.get p.tracker.active then
    match p.tracker.openHalf with
    | some h => if shortestHalf ≤ h.length frame then p.boundary h frame .crossing else p
    | none => { p with tracker := p.tracker.lockAt frame }
  else p

/-- A frame delivered: its index, the ring and the filling slots, the tracker and the engine. A slot it fills or a chain it expires
and a boundary it closes may come in either order (R101, R106, R107; log entry 7, DESIGN CHOICE). -/
def Part.deliver (p : Part) (index : Nat) (samples : Tri Sample) (substituted : Bool) : Part :=
  let p := { p with
    receiver := { p.receiver with frameIndex := index, delivered := true }
    capture := p.capture.deliver ⟨index, samples, substituted⟩ }
  if p.anyFull || p.anyExpiry then
    if p.settleSlots.track samples substituted = (p.track samples substituted).settleSlots then p.track samples substituted
    else if p.freeOrder.1 then p.freeOrder.2.settleSlots.track samples substituted
    else p.freeOrder.2.track samples substituted
  else p.track samples substituted

end Sys2Proof.Machine
end

