-- ==== Sys2Proof/Machine/Writer.lean ====
section
/-! DEFINITION. The journal's fault, the writer's choice of work, the asking of read bursts and the array access arbiter (spec 08, sections 8.5 to 8.7; spec 09 R137; spec 11 R177). -/

namespace Sys2Proof.Machine

/-! ## FAULTED (R137) -/

/-- The mark as it was, for a Release that the journal's fault ends; a free value for a party that an adoption dropped while the Release
waited, which has none (R137, R180; log entry 18, DESIGN CHOICE). -/
def Part.markAsItWas (p : Part) (q : Party) : Nat := (p.journal.mark q).getD (Config.droppedMark p.freeCount)

/-- A pending settings entry discarded: a PROFILE record that waited for it is handed over, a Release that waited for it is answered
JOURNAL_FAULT with the mark as it was, in both places (R137, R144, R166; log entry 30, DEDUCED). -/
def Part.discardSetting (p : Part) (e : PendingSetting) : Part :=
  let p := match e.record with
    | some r => p.handRecord r
    | none => p
  match e.setting with
  | .mark q _ => if e.answers then p.answerHeld q .journalFault (.release (p.markAsItWas q) (p.markAsItWas q)) else p
  | .profile _ _ | .epoch _ _ => p

/-- The journal FAULTED: the record in hand and the pending settings work discarded, JOURNAL_BLOCKED noticed with cause FAULTED, and a
forced adoption that waited for an erase taken (R137, R165). -/
def Part.fault (p : Part) (cause : FaultCause) : Part :=
  let waiting := p.journal.pendingSettings
  let p := { p with
    journal := { p.journal with state := .faulted, faultCause := some cause, pendingSettings := [], compaction := none }
    commit := { p.commit with inHand := none }
    array := { p.array with op := none, choice := none, chosenRelease := none } }
  ((waiting.foldl Part.discardSetting p).raiseAll .journalBlocked .faulted).forceAdoption

/-! ## The writer's choice (R124, R125) -/

/-- The record chosen between the queues by the commit weight (R125). -/
def Commit.chooseRecord (c : Commit) (weight : Option Nat) : Option Work :=
  match c.priority.isEmpty, c.bulk.isEmpty with
  | true, true => none
  | false, true => some .priority
  | true, false => some .bulk
  | false, false =>
    match weight with
    | none => some .priority
    | some w => if c.credit < w then some .priority else some .bulk

/-- The writer's next work in its order: a retry, settings work, an erase, a record (R124). -/
def Part.chooseWork (p : Part) : Option Work :=
  if p.isStarting || p.isFaulted then none
  else if p.commit.inHand.isSome && decide (p.journal.writeSlot < sectorSlots) then some .retry
  else if !p.journal.pendingSettings.isEmpty then some .settings
  else if p.isErasing then some .erase
  else if decide (p.journal.state = .writing) && decide (p.journal.writeSlot < sectorSlots) && p.commit.inHand.isNone then
    p.commit.chooseRecord p.profile.inForce.weight
  else none

/-- The writer's standing request: a record chosen stays chosen while its queue holds one; other work is chosen afresh (R124, R149;
log entry 9, DEDUCED). -/
def Part.refreshChoice (p : Part) : Option Work :=
  match p.chooseWork, p.array.choice with
  | some .priority, some .bulk => if p.commit.bulk.isEmpty then some .priority else some .bulk
  | some .bulk, some .priority => if p.commit.priority.isEmpty then some .bulk else some .priority
  | w, _ => w

/-- The credit counter after a PRIORITY record is taken (R125). -/
def creditAfter (weight : Option Nat) (c : Nat) : Nat :=
  match weight with
  | none => 0
  | some w => satAdd w c 1

/-- The PRIORITY record that is taken: the RELEASE that replaced a chosen one, else the oldest (R116, R124). -/
def Commit.chosen (c : Commit) (release : Option Party) : Option Rec :=
  (release.bind (fun q => c.priority.find? (isReleaseOf q))).or c.priority.head?

/-- The chosen PRIORITY record taken into the writer's hand, its entry freed (R116, R119, R122, R124, R125). -/
def Part.takePriority (p : Part) : Part :=
  match p.commit.chosen p.array.chosenRelease with
  | none => p
  | some r =>
    { p with
      commit := { p.commit with priority := p.commit.priority.erase r, inHand := some r
                                credit := creditAfter p.profile.inForce.weight p.commit.credit }
      array := { p.array with chosenRelease := none } }.entryFreed

/-- The oldest BULK record taken into the writer's hand (R116, R125). -/
def Part.takeBulk (p : Part) : Part :=
  match p.commit.bulk with
  | [] => p
  | r :: rest => { p with commit := { p.commit with bulk := rest, inHand := some r, credit := 0 } }

/-! ## Starting operations -/

/-- The array BUSY with an operation of a requester (R127). -/
def Part.startOp (p : Part) (r : Requester) (op : ArrayOp) : Part :=
  { p with array := { p.array with op := some op, lastGranted := r } }

/-- The settings sector that is not active. -/
def Journal.otherSettings (j : Journal) : Nat := if j.settingsActive = 128 then 129 else 128

/-- What a place of a compaction takes: the triggering entry when it is of the place's kind, else the current entry of that kind, if
any (R150; log entry 8, DESIGN CHOICE). -/
def copyAt (trigger : Setting) (ofKind : Setting → Bool) (current : Option Setting) : Option (Setting × Bool) :=
  if ofKind trigger then some (trigger, true) else current.map (fun e => (e, false))

/-- The place of a party's MARK entry: nothing for a party that is not enrolled (R150). -/
def Part.markCopy (p : Part) (trigger : Setting) (q : Party) : Option (Setting × Bool) :=
  if p.profile.inForce.isEnrolled q then copyAt trigger (isMarkOf q) (p.journal.curMark q) else none

/-- The copies of a compaction that `trigger` calls for, in the order PROFILE, EPOCH, MARK SUPPLY, MARK PREMISES (R150). -/
def Part.compactionCopies (p : Part) (trigger : Setting) : List (Setting × Bool) :=
  [copyAt trigger isProfile p.journal.curProfile, copyAt trigger isEpoch p.journal.curEpoch,
    p.markCopy trigger .supply, p.markCopy trigger .premises].filterMap id

/-- The MARK entry of a party that a compaction leaves behind is current no longer (R145, R150). -/
def Journal.leaveMark (j : Journal) (pr : Profile) (q : Party) : Journal := if pr.isEnrolled q then j else j.setCurMark q none

/-- A compaction begun at the first slot of the other settings sector (R150). -/
def Part.startCompaction (p : Part) (trigger : Setting) : Part :=
  let j := (p.journal.leaveMark p.profile.inForce .supply).leaveMark p.profile.inForce .premises
  { p with journal := { j with compaction := some ⟨p.compactionCopies trigger, 0⟩ } }.startOp .writer .compaction

/-- Settings work started: an entry's program, or a compaction when the active sector is full (R148, R150). -/
def Part.startSettings (p : Part) : Part :=
  match p.journal.pendingSettings with
  | [] => p
  | e :: _ =>
    if p.journal.settingsSlot < sectorSlots then p.startOp .writer .settingsProgram
    else p.startCompaction e.setting

/-- The called-for erase started: the tail ERASING (R141). -/
def Part.startErase (p : Part) : Part :=
  let t := p.journal.tail
  { p with journal := p.journal.setSector t { p.journal.sector t with state := .erasing } }.startOp .writer (.erase t)

/-- The writer granted: its work started (R124, R127). -/
def Part.grantWriter (p : Part) (w : Work) : Part :=
  let p := { p with array := { p.array with choice := none } }
  match w with
  | .retry => p.startOp .writer .recordProgram
  | .settings => p.startSettings
  | .erase => p.startErase
  | .priority => p.takePriority.startOp .writer .recordProgram
  | .bulk => p.takeBulk.startOp .writer .recordProgram

/-! ## Read bursts (R177) -/

/-- The sequence a port's next burst starts from: the cursor plus the buffered count. -/
def Port.burstStart (t : Port) : Nat := t.cursor + t.buffer.length

/-- Whether the journal holds the record a burst would start from. -/
def Journal.holdsFrom (j : Journal) (s : Nat) : Bool :=
  match j.newest with
  | some n => decide (s ≤ n)
  | none => false

/-- Whether a port asks for a burst (R177). -/
def Part.wantsBurst (p : Part) (q : Party) : Bool :=
  let t := p.ports.get q
  t.streaming && decide (t.burst = .absent) && !t.overtaken && decide (t.buffer.length ≤ 4) && p.journal.holdsFrom t.burstStart &&
  !p.isStarting

/-- The condition of R177 tested at a port: a burst then stands at the arbiter. -/
def Part.askBurst (p : Part) (q : Party) : Part := if p.wantsBurst q then p.mapPort q (fun t => { t with burst := .standing }) else p

/-- The condition of R177 tested at every port. -/
def Part.askBursts (p : Part) : Part := ((p.askBurst .supply).askBurst .premises).askBurst .field

/-- A port granted: its burst in flight from the cursor plus the buffered count (R177). -/
def Part.grantPort (p : Part) (q : Party) : Part :=
  (p.mapPort q (fun t => { t with burst := .inFlight t.burstStart false })).startOp (.port q) (.burst q)

/-! ## The arbiter (R127) -/

/-- The requesters after one in the fixed cycle writer, SUPPLY, PREMISES, FIELD, itself last. -/
def cycleAfter : Requester → List Requester
  | .writer => [.port .supply, .port .premises, .port .field, .writer]
  | .port .supply => [.port .premises, .port .field, .writer, .port .supply]
  | .port .premises => [.port .field, .writer, .port .supply, .port .premises]
  | .port .field => [.writer, .port .supply, .port .premises, .port .field]

/-- Whether a requester asks for the array. -/
def Part.asks (p : Part) : Requester → Bool
  | .writer => p.array.choice.isSome
  | .port q => decide ((p.ports.get q).burst = .standing)

/-- A requester granted. -/
def Part.grant (p : Part) : Requester → Part
  | .writer =>
    match p.array.choice with
    | some w => p.grantWriter w
    | none => p
  | .port q => p.grantPort q

/-- Whether the operation in progress is the writer's. -/
def ArrayState.writerBusy (a : ArrayState) : Bool :=
  match a.op with
  | none | some (.burst _) => false
  | some _ => true

/-- Whether the next settings entry would need a sequence number that is not assigned (R148), the array IDLE so that its program could start
(log entry 47, DESIGN CHOICE). -/
def Part.settingsExhausted (p : Part) : Bool :=
  decide (p.chooseWork = some .settings) && p.array.op.isNone && decide (lastSequence < p.journal.nextSettings)

/-- The writer's request standing, or none while its own operation runs (R124, R127). -/
def Part.ask (p : Part) : Part :=
  { p with array := { p.array with choice := if p.array.writerBusy then none else p.refreshChoice } }

/-- The first requester that asks after the last granted one, granted when the array is IDLE (R127), requests that one
command brings to an IDLE array among them (log entry 41, DESIGN CHOICE). -/
def Part.grantNext (p : Part) : Part :=
  if p.array.op.isNone then
    match (cycleAfter p.array.lastGranted).find? p.asks with
    | some r => p.grant r
    | none => p
  else p

/-- The end of every command: the settings' exhaustion seen, the writer's choice made, the array granted when IDLE (log entry 9, DEDUCED).
Exhausted settings sequences fault the journal here, at the end of a command that leaves the array IDLE and before the grant, even where a
standing port burst would be granted first (R148; log entry 47, DESIGN CHOICE). -/
def Part.arbitrate (p : Part) : Part :=
  let p := if p.settingsExhausted then p.fault .sequencesExhausted else p
  if p.isStarting then p else p.ask.grantNext

end Sys2Proof.Machine
end

