-- ==== Sys2Proof/Machine/Streams.lean ====
section
/-! DEFINITION. Reading the journal for a port: the records of a burst, its landing, and Read Next (spec 09 R146; spec 11 R176 to R179). -/

namespace Sys2Proof.Machine

/-- The valid records of the ring in ascending order of sequence, each with its sector: from the tail round to the open sector. -/
def Journal.retained (j : Journal) : List (Nat × Stored) :=
  j.ringOrder.flatMap (fun n => (j.sector n).valid.map (fun r => (n, r)))

/-- The places of the records a burst from `s` returns: at most four, from `s` upward (R146). -/
def Journal.burstPlaces (j : Journal) (s : Nat) : List (Nat × Stored) := (j.retained.filter (fun x => decide (s ≤ x.2.seq))).take 4

/-- One record as it is stored: header, payload and check value (R146). -/
def storedBytes (m : Memory) (sector slot : Nat) : List Byte :=
  let bs := Memory.readSlot m sector slot
  bs.take (recordLength bs)

/-- The records a burst from `s` returns (R146). -/
def burstRecords (m : Memory) (j : Journal) (s : Nat) : List BufRec :=
  (j.burstPlaces s).map (fun x => ⟨x.2.seq, storedBytes m x.1 x.2.slot⟩)

/-- A burst landed at its port (R178). -/
def Port.land (t : Port) (records : List BufRec) : Port :=
  match t.burst with
  | .inFlight s discard =>
    let t := { t with burst := .absent }
    if discard then t
    else
      match records with
      | [] => t
      | r :: _ => if r.seq = s then { t with buffer := t.buffer ++ records } else { t with overtaken := true }
  | .absent | .standing => t

/-- Payload bytes of a Read Next response that its records may fill: 512 less the response's own, whose number the spec does not give
but which leave room for any first record (R179; log entry 11, DESIGN CHOICE). -/
def recordRoom : Nat := 512 - min Config.readNextOwnBytes 384

/-- Records taken from the head of a buffer, up to a count, while they fit; the rest stays (R179). -/
def takeFitting : Nat → Nat → List BufRec → List BufRec × List BufRec
  | 0, _, buf => ([], buf)
  | _, _, [] => ([], [])
  | k + 1, room, r :: rest =>
    if r.bytes.length ≤ room then
      (r :: (takeFitting k (room - r.bytes.length) rest).1, (takeFitting k (room - r.bytes.length) rest).2)
    else ([], r :: rest)

/-- The cursor moved up to the oldest retained when the buffer is empty and the cursor lies below it; overtaken cleared (R179, first). -/
def Port.catchUp (t : Port) (oldest : Nat) : Port :=
  if t.buffer.isEmpty && decide (t.cursor < oldest) then { t with cursor := oldest, overtaken := false } else t

/-- The records a Read Next returns and the stream after it (R179, second). -/
def Port.takeRecords (t : Port) (count : Nat) : List BufRec × Port :=
  let taken := takeFitting count recordRoom t.buffer
  (taken.1, { t with buffer := taken.2, cursor := t.cursor + taken.1.length })

/-- How a Read Next stands: answered, or held with the count it has skipped. -/
inductive ReadOutcome
  | answered (status : Status) (body : Body)
  | waits (skipped : Nat)
  deriving DecidableEq, Repr

/-- Read Next handled in its order from the state it finds; `skipped` is what it has passed over so far (R179). -/
def Part.readNextStep (p : Part) (q : Party) (count skipped : Nat) : ReadOutcome × Part :=
  let t := (p.ports.get q).catchUp p.journal.oldest
  let skipped := skipped + (t.cursor - (p.ports.get q).cursor)
  let p := p.mapPort q (fun _ => t)
  if t.buffer.isEmpty then
    if p.journal.holdsFrom t.cursor then (.waits skipped, p) else (.answered .caughtUp (.records skipped []), p)
  else
    let taken := t.takeRecords count
    (.answered .ok (.records skipped (taken.1.map BufRec.bytes)), p.mapPort q (fun _ => taken.2))

/-- A Read Next still held after a landing: its skipped count kept. -/
def Port.holdRead (t : Port) (count skipped : Nat) : Port :=
  { t with inProgress := t.inProgress.map (fun r => { r with held := .readNext count skipped }) }

/-- A held Read Next with an empty buffer sent back to R179's first case: what stands in the way of asking again is cleared (R179; log
entry 39, DESIGN CHOICE). -/
def Port.retry (t : Port) : Port := { t with overtaken := t.overtaken && !t.buffer.isEmpty }

/-- A held Read Next answered if it can be; else its port asks again (R178, R179). -/
def Part.serveHeld (p : Part) (q : Party) : Part :=
  match (p.ports.get q).inProgress.map InProgress.held with
  | some (.readNext count skipped) =>
    match (p.mapPort q Port.retry).readNextStep q count skipped with
    | (.answered status body, p) => p.answerHeld q status body
    | (.waits n, p) => p.mapPort q (fun t => t.holdRead count n)
  | some (.release _) | none => p

/-- A read burst landed: the buffer, the array, a held Read Next, the next burst (R127, R178). -/
def Part.burstLands (p : Part) (q : Party) (records : List BufRec) : Part :=
  let p := (p.mapPort q (fun t => t.land records))
  let p := { p with array := { p.array with op := none } }
  (p.serveHeld q).askBurst q

/-- A port's stream emptied: a standing burst withdrawn, a burst in flight given its discard mark (R176, R186). -/
def Burst.dropped : Burst → Burst
  | .absent | .standing => .absent
  | .inFlight s _ => .inFlight s true

/-- A port's stream set to a cursor, with the buffer emptied and overtaken cleared (R176, R186). -/
def Port.setStream (t : Port) (cursor : Nat) (streaming : Bool) : Port :=
  { t with cursor := cursor, buffer := [], streaming := streaming, overtaken := false, burst := t.burst.dropped }

/-- The cursor a port takes when the scan ends and at Port Reset: an enrolled party's mark, else the oldest retained (R171, R186). -/
def Part.startCursor (p : Part) (q : Party) : Nat :=
  if p.profile.inForce.isEnrolled q then (p.journal.mark q).getD p.journal.oldest else p.journal.oldest

end Sys2Proof.Machine
end

