-- ==== Sys2Proof/Machine/Scan.lean ====
section
/-! DEFINITION. The start-up scan: settings, ring, repairs, marks, and the restart it ends in (spec 09, section 9.7; spec 13, section 13.3). -/

namespace Sys2Proof.Machine

/-! ## Reading a sector -/

/-- What a ring slot holds (R131). -/
inductive SlotContent
  | erased
  | record (f : Found)
  | other
  deriving DecidableEq, Repr

/-- Whether a cell lies in an address range and is not as an erase leaves it. -/
def isWritten (lo hi : Nat) (c : Host.Cell) : Bool := decide (lo ≤ c.1) && decide (c.1 < hi) && decide (c.2 ≠ erasedByte)

/-- The cells of a sector. -/
def sectorCells (m : Memory) (n : Nat) : Memory := m.filter (isWritten (slotAddress n 0) (slotAddress (n + 1) 0))

/-- Whether a slot is erased (R131). -/
def slotErased (m : Memory) (n k : Nat) : Bool := !m.any (isWritten (slotAddress n k) (slotAddress n (k + 1)))

/-- What a ring slot holds, read from its sector's cells. -/
def slotContent (m : Memory) (n k : Nat) : SlotContent :=
  if slotErased m n k then .erased
  else match readRecord (Memory.readSlot m n k) with
    | some f => .record f
    | none => .other

/-- Every slot of a sector. -/
def sectorContents (m : Memory) (n : Nat) : List SlotContent :=
  let cells := sectorCells m n
  if cells.isEmpty then List.replicate sectorSlots .erased else (List.range sectorSlots).map (slotContent cells n)

/-! ## The ring (R152) -/

/-- A slot whose check value holds, with its place. -/
structure Candidate where
  sector : Nat
  slot : Nat
  found : Found
  deriving DecidableEq, Repr

/-- The record of a slot's content, as a candidate. -/
def candidateAt (n : Nat) : SlotContent × Nat → Option Candidate
  | (.record f, k) => some ⟨n, k, f⟩
  | (.erased, _) | (.other, _) => none

/-- Every candidate of the ring, sector by sector. -/
def ringCandidates (table : List (List SlotContent)) : List Candidate :=
  table.zipIdx.flatMap (fun (cs, n) => cs.zipIdx.filterMap (candidateAt n))

/-- Whether `y` comes later in write order than `x` (R152; log entry 21, DEDUCED): a higher slot of one sector, else a sector less than half a
ring ahead. -/
def Candidate.isLater (y x : Candidate) : Bool :=
  if y.sector = x.sector then decide (x.slot < y.slot)
  else
    let d := (y.sector + ringSectors - x.sector) % ringSectors
    decide (d < 64) || (decide (d = 64) && decide (x.sector < y.sector))

/-- Whether a candidate stands: no later one carries its sequence number (R131, R152). -/
def Candidate.stands (all : List Candidate) (x : Candidate) : Bool :=
  !all.any (fun y => decide (y.found.seq = x.found.seq) && y.isLater x)

/-- The candidate with the highest sequence number. -/
def highest : List Candidate → Option Candidate
  | [] => none
  | x :: xs =>
    match highest xs with
    | none => some x
    | some y => if y.found.seq < x.found.seq then some x else some y

/-- The slot after the last slot that is not erased (R152). -/
def slotsUsed : List SlotContent → Nat
  | [] => 0
  | c :: cs => if slotsUsed cs = 0 then (if c = .erased then 0 else 1) else slotsUsed cs + 1

/-- Whether sequence numbers rise by one. -/
def consecutive : List Nat → Bool
  | [] | [_] => true
  | a :: b :: rest => decide (a + 1 = b) && consecutive (b :: rest)

/-- The standing records of a sector, in slot order. -/
def standingOf (standing : List Candidate) (n : Nat) : List Candidate := standing.filter (fun x => decide (x.sector = n))

/-- The sector-table entry of a sector in a state (R152, R153). -/
def tableEntry (cs : List SlotContent) (records : List Candidate) (state : SectorState) : Sector where
  state := state
  valid := records.map (fun x => ⟨x.slot, x.found.seq, x.found.seconds⟩)
  dirty := (cs.zipIdx.filter (fun (c, k) => decide (c ≠ .erased) && !records.any (fun x => decide (x.slot = k)))).map Prod.snd

/-- Whether the walk accepts a sector before one whose first sequence is `first` (R152). -/
def accepts (cs : List SlotContent) (seqs : List Nat) (first : Nat) : Bool :=
  !cs.contains .erased && consecutive seqs && decide (seqs.getLast?.map (· + 1) = some first)

/-- The sectors the walk backward accepts, from sector `n`, next to one whose first sequence is `first` (R152). -/
def walkBack (table : List (List SlotContent)) (standing : List Candidate) : Nat → Nat → Nat → List Nat
  | 0, _, _ => []
  | fuel + 1, n, first =>
    let seqs := (standingOf standing n).map (fun x => x.found.seq)
    if accepts (table.getD n []) seqs first then
      n :: walkBack table standing fuel ((n + ringSectors - 1) % ringSectors) (seqs.headD 0)
    else []

/-- What the scan makes of the ring. -/
structure RingScan where
  newest : Option Candidate
  openSector : Nat
  writeSlot : Nat
  accepted : List Nat
  sectors : List Sector
  erases : List Nat
  deriving DecidableEq, Repr

/-- Whether a sector is written: not every slot is erased (R152). -/
def anyWritten (cs : List SlotContent) : Bool := cs.any (fun c => decide (c ≠ .erased))

/-- The ring read (R152, R153). -/
def scanRing (m : Memory) : RingScan :=
  let table := (List.range ringSectors).map (sectorContents m)
  let all := ringCandidates table
  let standing := all.filter (Candidate.stands all)
  match highest standing with
  | none =>
    { newest := none, openSector := 0, writeSlot := 0, accepted := []
      sectors := (List.range ringSectors).map (fun n => if n = 0 then ⟨.isOpen, [], []⟩ else erasedSector)
      erases := (List.range ringSectors).filter (fun n => anyWritten (table.getD n [])) }
  | some top =>
    let first := ((standingOf standing top.sector).head?.map (fun x => x.found.seq)).getD 0
    let accepted := walkBack table standing (ringSectors - 1) ((top.sector + ringSectors - 1) % ringSectors) first
    { newest := some top, openSector := top.sector, writeSlot := slotsUsed (table.getD top.sector []), accepted := accepted
      sectors := (List.range ringSectors).map (fun n =>
        if n = top.sector then tableEntry (table.getD n []) (standingOf standing n) .isOpen
        else if accepted.contains n then tableEntry (table.getD n []) (standingOf standing n) .full
        else erasedSector)
      erases := (List.range ringSectors).filter (fun n =>
        anyWritten (table.getD n []) && decide (n ≠ top.sector) && !accepted.contains n) }

/-! ## The settings area (R151) -/

/-- A valid settings entry with its place. -/
structure SettingsEntry where
  sector : Nat
  slot : Nat
  seq : Nat
  setting : Setting
  deriving DecidableEq, Repr

/-- The valid entries of a settings sector, in slot order. -/
def settingsEntries (m : Memory) (n : Nat) : List SettingsEntry :=
  let cells := sectorCells m n
  if cells.isEmpty then []
  else (List.range sectorSlots).filterMap (fun k =>
    if slotErased cells n k then none
    else (readSetting (Memory.readSlot cells n k)).map (fun e => ⟨n, k, e.1, e.2⟩))

/-- The slot after a sector's last slot that is not erased. -/
def settingsUsed (m : Memory) (n : Nat) : Nat :=
  let cells := sectorCells m n
  slotsUsed ((List.range sectorSlots).map (fun k => if slotErased cells n k then .erased else .other))

/-- The entry with the highest settings sequence; the later one among equals. -/
def highestEntry : List SettingsEntry → Option SettingsEntry
  | [] => none
  | x :: xs =>
    match highestEntry xs with
    | none => some x
    | some y => if y.seq < x.seq then some x else some y

/-- The current entry among those that satisfy a test (R151). -/
def currentOf (entries : List SettingsEntry) (test : Setting → Bool) : Option SettingsEntry :=
  highestEntry (entries.filter (fun e => test e.setting))

/-- What the scan makes of the settings area. -/
structure SettingsScan where
  profile : Option SettingsEntry
  epoch : Option SettingsEntry
  markSupply : Option SettingsEntry
  markPremises : Option SettingsEntry
  active : Nat
  other : Nat
  slot : Nat
  next : Nat
  deriving DecidableEq, Repr

/-- The profile an optional PROFILE entry gives; the default without one (R151). -/
def profileOf : Option SettingsEntry → Profile
  | some ⟨_, _, _, .profile _ contents⟩ => contents
  | _ => Profile.default

/-- The profile number an optional PROFILE entry gives; 1 without one (R151). -/
def profileNumberOf : Option SettingsEntry → Nat
  | some ⟨_, _, _, .profile number _⟩ => number
  | _ => 1

/-- A MARK entry kept when its party is enrolled under the recovered profile (R151). -/
def enrolledOnly (pr : Profile) (q : Party) (e : Option SettingsEntry) : Option SettingsEntry := if pr.isEnrolled q then e else none

/-- The settings area read (R151). -/
def scanSettings (m : Memory) : SettingsScan :=
  let entries := settingsEntries m 128 ++ settingsEntries m 129
  let profile := currentOf entries isProfile
  let pr := profileOf profile
  let top := highestEntry entries
  let active := (top.map SettingsEntry.sector).getD 128
  { profile := profile
    epoch := currentOf entries isEpoch
    markSupply := enrolledOnly pr .supply (currentOf entries (isMarkOf .supply))
    markPremises := enrolledOnly pr .premises (currentOf entries (isMarkOf .premises))
    active := active
    other := if active = 128 then 129 else 128
    slot := match top with | some _ => settingsUsed m active | none => 0
    next := match top with | some e => e.seq + 1 | none => 0 }

/-- The current entries that lie in the other sector, in the order PROFILE, EPOCH, MARK SUPPLY, MARK PREMISES (R151). -/
def SettingsScan.toCopy (t : SettingsScan) : List Setting :=
  ([t.profile, t.epoch, t.markSupply, t.markPremises].filterMap id |>.filter (fun e => decide (e.sector = t.other))).map
    SettingsEntry.setting

/-! ## Repairs (R151, R153) -/

/-- One of the scan's operations on the array. -/
inductive Repair
  | program (sector slot : Nat) (bytes : List Byte)
  | erase (sector : Nat)
  deriving DecidableEq, Repr

/-- The repair carried out. -/
def Repair.apply (m : Memory) : Repair → Memory
  | .program n k bytes => Memory.program m n k bytes
  | .erase n => Memory.erase m n

/-- The repair cut short (log entry 6, DESIGN CHOICE). -/
def Repair.tear (m : Memory) (free : Nat) : Repair → Memory
  | .program n k bytes => Memory.tearSlot m n k free bytes.length
  | .erase n => Memory.tearSector m n free

/-- The copies the scan makes: while slots are left and settings sequences can be assigned (R148, R151). -/
def SettingsScan.copies (t : SettingsScan) : List Setting :=
  t.toCopy.take (min (sectorSlots - t.slot) (lastSequence + 1 - t.next))

/-- Whether a copy needs a settings sequence that is not assigned (R148). -/
def SettingsScan.unassigned (t : SettingsScan) : Bool := decide (lastSequence + 1 < t.next + t.toCopy.length) && !t.toCopy.isEmpty

/-- Copies programmed one after another, each with the next settings sequence and slot. -/
def copyRepairs (sector : Nat) : Nat → Nat → List Setting → List Repair
  | _, _, [] => []
  | slot, seq, e :: rest => .program sector slot (e.encode seq) :: copyRepairs sector (slot + 1) (seq + 1) rest

/-- The repairs of the settings area: copies of what lies only in the other sector, then its erase (R151). A copy whose settings sequence
is not assigned is not made, nor the erase that would follow the copies (R148; log entry 24, DEDUCED). -/
def settingsRepairs (m : Memory) (t : SettingsScan) : List Repair :=
  let stray := fun n => if (sectorCells m n).isEmpty then [] else [Repair.erase n]
  match settingsEntries m 128 ++ settingsEntries m 129 with
  | [] => stray 128 ++ stray 129
  | _ :: _ => copyRepairs t.active t.slot t.next t.copies ++ (if t.unassigned then [] else stray t.other)

/-- Every repair of the scan in its order. -/
def repairs (m : Memory) : List Repair := settingsRepairs m (scanSettings m) ++ (scanRing m).erases.map Repair.erase

/-- The array after the scan. -/
def repaired (m : Memory) : Memory := (repairs m).foldl Repair.apply m

/-- The array after a scan cut short: a free number of repairs done, the next one torn (log entry 14, DESIGN CHOICE). -/
def cutScan (m : Memory) (free : Nat) : Memory :=
  let done := min (Config.scanProgress free) (repairs m).length
  let m' := ((repairs m).take done).foldl Repair.apply m
  match (repairs m).drop done with
  | [] => m'
  | r :: _ => r.tear m' free

/-! ## What the scan leaves (R153, R154) -/

/-- The number of an EPOCH entry, 0 without one. -/
def epochNumberOf : Option SettingsEntry → Nat
  | some ⟨_, _, _, .epoch number _⟩ => number
  | _ => 0

/-- The base of an EPOCH entry, 0 without one. -/
def epochBaseOf : Option SettingsEntry → Nat
  | some ⟨_, _, _, .epoch _ base⟩ => base
  | _ => 0

/-- A stored mark, 0 without an entry. -/
def markOf : Option SettingsEntry → Nat
  | some ⟨_, _, _, .mark _ m⟩ => m
  | _ => 0

/-- The last epoch number (R154). -/
def lastEpoch (t : SettingsScan) (r : RingScan) : Nat :=
  max (epochNumberOf t.epoch) ((r.newest.map (fun x => x.found.epoch)).getD 0)

/-- The epoch base for the new epoch (R154). -/
def newBase (t : SettingsScan) (r : RingScan) : Nat :=
  max ((r.newest.map (fun x => x.found.seconds + 1)).getD 0) (epochBaseOf t.epoch)

/-- A stored mark raised to the oldest retained and lowered to the next sequence (R154). -/
def clampMark (j : Journal) (m : Nat) : Nat := min (max m j.oldest) j.nextSequence

/-- The mark of a party when it is enrolled (R154). -/
def scannedMark (pr : Profile) (j : Journal) (q : Party) (e : Option SettingsEntry) : Option Nat :=
  if pr.isEnrolled q then some (clampMark j (markOf e)) else none

/-- The writer moved on when the open sector is used up and the sector after it is ERASED (R153). -/
def Journal.scanMoveOn (j : Journal) : Journal := if sectorSlots ≤ j.writeSlot ∧ j.spare = true then j.advance else j

/-- The journal controller's state rebuilt (R151 to R154); its state stays STARTING until the restart ends. -/
def scannedJournal (t : SettingsScan) (r : RingScan) : Journal :=
  let copies := t.copies.length
  let j := { resetJournal with
    sectors := r.sectors, openSector := r.openSector, writeSlot := r.writeSlot, newest := r.newest.map (fun x : Candidate => x.found.seq)
    settingsActive := t.active, settingsSlot := t.slot + copies, nextSettings := t.next + copies
    curProfile := t.profile.map SettingsEntry.setting, curEpoch := t.epoch.map SettingsEntry.setting
    curMarkSupply := t.markSupply.map SettingsEntry.setting, curMarkPremises := t.markPremises.map SettingsEntry.setting
    epochBase := newBase t r }.scanMoveOn
  { j with markSupply := scannedMark (profileOf t.profile) j .supply t.markSupply
           markPremises := scannedMark (profileOf t.profile) j .premises t.markPremises }

/-! ## The restart (R199) -/

/-- The new epoch's number: the last plus 1, staying at 65,535 (R199). -/
def newEpoch (last : Nat) : Nat := min 65535 (last + 1)

/-- Every block set up for the new epoch from what the scan found (R3, R12, R30, R78, R156, R171, R199). -/
def Part.setUp (p : Part) (t : SettingsScan) (r : RingScan) : Part :=
  let pr := profileOf t.profile
  { p with
    receiver := { p.receiver with epoch := newEpoch (lastEpoch t r) }
    tracker := resetTracker pr
    engine := resetEngine pr
    aggregator := resetAggregator pr
    array := { p.array with lastGranted := .writer }
    journal := scannedJournal t r
    profile := { p.profile with inForce := pr, number := profileNumberOf t.profile } }

/-- The settings work of a restart: a PROFILE entry when the default was taken, then the EPOCH entry (R154, R199). -/
def Part.addStartEntries (p : Part) (tookDefault : Bool) : Part :=
  let p := if tookDefault then p.addSetting ⟨.profile p.profile.number p.profile.inForce, false, false, none⟩ else p
  p.addSetting ⟨.epoch p.receiver.epoch p.journal.epochBase, false, false, none⟩

/-- The PROFILE record handed over at a restart; its default flag is set when the profile is the default (R154; log entry 20, DEDUCED). -/
def startProfilePayload (number : Nat) (pr : Profile) : Payload :=
  .profile number none (PerParty.all false) false (decide (pr = Profile.default)) pr

/-- The RESTART record, and behind it the PROFILE record where R154 calls for one (R199). -/
def Part.handStartRecords (p : Part) (withProfile : Bool) : Part :=
  let p' := p.handRecord (p.buildRec .recorder 0 (.restart p.restartCause p.journal.newest p.profile.number))
  if withProfile then p'.handRecord (p.buildRec .recorder 0 (startProfilePayload p.profile.number p.profile.inForce)) else p'

/-- The journal's state at the end of the scan (R154). -/
def Part.enterState (p : Part) : Part :=
  if !p.journal.spare && p.reclaimable then p.setJournalState .erasing
  else if p.journal.writeSlot < sectorSlots then p.setJournalState .writing
  else p.enterBlocked

/-- Every port's cursor set (R171). -/
def Part.setCursors (p : Part) : Part :=
  ((p.mapPort .supply (fun t => { t with cursor := p.startCursor .supply })).mapPort .premises
    (fun t => { t with cursor := p.startCursor .premises })).mapPort .field (fun t => { t with cursor := p.startCursor .field })

/-- Sequence numbers that are exhausted when the scan ends, those of the records or those of the settings entries (R133, R148; log entry 24,
DEDUCED). -/
def Part.startFault (p : Part) (unassigned : Bool) : Part :=
  if p.journal.newest = some lastSequence ∨ unassigned = true then p.fault .sequencesExhausted else p

/-- The end of the start-up scan and the restart it ends in (R154, R199). The state the scan's evaluation brings is entered first and the
fault of exhausted sequences follows, so a part that is used up with an unreclaimable tail notices JOURNAL_BLOCKED for both
(R154, R187, R189; log entry 24, DEDUCED). -/
def Part.startUp (p : Part) (t : SettingsScan) (r : RingScan) : Part :=
  let p := p.setUp t r
  let p := (p.addStartEntries t.profile.isNone).handStartRecords (t.profile.isNone || r.newest.isNone)
  (((p.enterState).setCursors).startFault t.unassigned).askBursts

end Sys2Proof.Machine
end

