-- ==== Sys2Proof/Machine/Restart.lean ====
section
/-! DEFINITION. Commands as the machine runs them: whether the part is alive, operations cut short, restarts, and the end of every command (spec 13; log entries 1, 9, 22, 27, DESIGN CHOICE and DEDUCED). -/

namespace Sys2Proof.Machine

/-- Power is applied and RESET_N is high. -/
def State.alive (s : State) : Bool := s.pins.power && s.pins.resetHigh

/-- The part changed by a function of itself. -/
def State.act (s : State) (f : Part → Part) : State := { s with part := f s.part }

/-- The array's contents once the operation in progress has been cut short (R127, R133, R153, R155; log entries 6, 14, DESIGN CHOICE). -/
def State.cutMemory (s : State) : Memory :=
  let j := s.part.journal
  let k := s.part.freeCount
  if s.part.isStarting then cutScan s.memory k
  else
    match s.part.array.op with
    | none | some (.burst _) => s.memory
    | some .recordProgram =>
      Memory.tearSlot s.memory j.openSector j.writeSlot k
        ((s.part.commit.inHand.map (fun r => (r.encode j.nextSequence).length)).getD 0)
    | some .settingsProgram =>
      Memory.tearSlot s.memory j.settingsActive j.settingsSlot k
        ((j.pendingSettings.head?.map (fun e => (e.setting.encode j.nextSettings).length)).getD 0)
    | some .compaction =>
      match j.compaction with
      | none => s.memory
      | some c =>
        match c.copies with
        | [] => Memory.tearSector s.memory j.settingsActive k
        | x :: _ => Memory.tearSlot s.memory j.otherSettings c.slot k (x.1.encode j.nextSettings).length
    | some (.erase n) => Memory.tearSector s.memory n k

/-- Every operation in progress cut off and every block at its reset values, the restart's cause kept for the RESTART record
(R198, R199). -/
def State.restart (s : State) (cause : RestartCause) : State :=
  { s with memory := if s.alive then s.cutMemory else s.memory, recovering := false, part := resetPart cause (s.part.freeCount + 1) }

/-- Whether nothing holds up the restart of a recovered supply (R197): the queues are empty and the array is IDLE (log entry 32,
DEDUCED). -/
def Part.drained (p : Part) : Bool :=
  p.commit.inHand.isNone && p.commit.priority.isEmpty && p.commit.bulk.isEmpty && p.journal.pendingSettings.isEmpty &&
  p.array.op.isNone

/-- The restart that a BLOCKED or FAULTED journal brings at once to a part that waits for one (R130, R197). -/
def State.recoverAtOnce (s : State) : State :=
  if s.recovering && (s.part.isBlocked || s.part.isFaulted) then s.restart .supplyRecovered else s

/-- The restart of a recovered supply when its conditions are met (R197). -/
def State.recoverDrained (s : State) : State := if s.recovering && s.part.drained then s.restart .supplyRecovered else s

/-- The end of every command: the arbiter, then a restart that is due at once (log entry 9, DEDUCED). -/
def State.finish (s : State) : State := (s.act Part.arbitrate).recoverAtOnce

/-- A command that finds the part alive: a note that is due, the outstanding steps, its own effect, the end of the command; nothing otherwise
(log entries 1, 3, 27, DESIGN CHOICE and DEDUCED). -/
def State.run (s : State) (body : State → State) : State :=
  if s.alive then (body (s.act (fun p => p.admitNote.settle))).finish else s

/-- A step that the delivered frames have made due, run as its own command; a note that is due comes first (log entries 1, 36, DESIGN
CHOICE). -/
def State.runDue (s : State) (step : Part → Part) : State := if s.alive then (s.act (fun p => step p.admitNote)).finish else s

/-- A command that changes the part alone. -/
def State.runPart (s : State) (f : Part → Part) : State := s.run (fun s => s.act f)

/-- A request that may offer a port-class record: it comes before a note that is still due, and the note enters after it when the
occupancy lets it (R122; log entry 36, DESIGN CHOICE). -/
def State.runOffer (s : State) (f : Part → Part) : State :=
  if s.alive then (s.act (fun p => (f p.settle).admitNote)).finish else s

end Sys2Proof.Machine
end

