-- ==== Sys2Proof/Machine/ArrayEvents.lean ====
section
/-! DEFINITION. The array's completions: record programs, erases, settings programs, compactions and read bursts (spec 08, section 8.7; spec 09). -/

namespace Sys2Proof.Machine

/-! ## Commitment at the ports (R135, R187, R194) -/

/-- The folded count of a BURST record of a type, 0 otherwise (R194). -/
def foldedCount (t : FoldType) (b : BurstRecord) : Nat := if b.type = t then b.summary.count else 0

/-- The sum of an OVERFLOW record's counts (R194). -/
def Overflow.total (o : Overflow) : Nat :=
  o.restart + o.supplyFail + o.profile + o.event + o.burst + o.capture + o.acqGap + o.tracking

/-- What an EVENT record adds to a tally (R194). -/
def eventTally (e : EventRecord) : Selection → Nat
  | .dips => if e.subType = .dip then 1 else 0
  | .swells => if e.subType = .swell then 1 else 0
  | .interruptions => if e.subType = .interruption then 1 else 0
  | .rvcs => if e.subType = .rvc then 1 else 0
  | .capturesRefused => if e.flags.captureRefused then 1 else 0
  | .bursts | .foldedEvents | .recordsWithheld | .linkErrors => 0

/-- What a BURST record adds to a tally (R194). -/
def burstTally (b : BurstRecord) : Selection → Nat
  | .dips => foldedCount .dip b
  | .swells => foldedCount .swell b
  | .rvcs => foldedCount .rvc b
  | .bursts => 1
  | .foldedEvents => b.summary.count
  | .interruptions | .capturesRefused | .recordsWithheld | .linkErrors => 0

/-- What a committed record adds to a tally of a selection (R194). -/
def tallyOf (payload : Payload) (s : Selection) : Nat :=
  match payload with
  | .event e => eventTally e s
  | .burst b => burstTally b s
  | .overflow o => if s = .recordsWithheld then o.total else 0
  | .interval i => if s = .recordsWithheld then i.withheld.getD 0 else 0
  | .restart _ _ _ | .supplyFail _ _ _ _ | .profile _ _ _ _ _ _ | .release _ _ _ | .timeMark _ _ | .note _ _ _ _ _
  | .capture _ | .acqGap _ _ _ | .tracking _ _ _ _ => 0

/-- A tally counts a committed record, modulo 2^32 (R193, R194). -/
def Tally.count (t : Tally) (payload : Payload) : Tally := { t with value := t.value + BitVec.ofNat 32 (tallyOf payload t.selection) }

/-- A port's tallies count a committed record (R194). -/
def Port.countCommit (t : Port) (payload : Payload) : Port :=
  { t with tallyA := t.tallyA.count payload, tallyB := t.tallyB.count payload, tallyC := t.tallyC.count payload }

/-- The notice a committed record raises at all ports (R187). -/
def commitNotice (seq : Nat) : Payload → Option (NoticeKind × Nat)
  | .event _ => some (.eventRecorded, seq)
  | .capture c => some (.captureReady, c.serial)
  | .interval i => some (.intervalClosed, i.index)
  | .restart _ _ _ | .supplyFail _ _ _ _ | .profile _ _ _ _ _ _ | .release _ _ _ | .timeMark _ _ | .note _ _ _ _ _
  | .burst _ | .acqGap _ _ _ | .tracking _ _ _ _ | .overflow _ => none

/-- A committed record at the three ports: notices, tallies, streams (R135, R177). -/
def Part.announce (p : Part) (seq : Nat) (payload : Payload) : Part :=
  let p := match commitNotice seq payload with
    | some (k, n) => p.raiseAll k (.number n)
    | none => p
  (p.mapPorts (fun t => t.countCommit payload)).askBursts

/-! ## Record programs (R135, R136) -/

/-- The array's operation over. -/
def Part.endOp (p : Part) : Part := { p with array := { p.array with op := none } }

/-- The open sector's entry with a committed record (R135). -/
def Journal.commit (j : Journal) (r : Rec) : Journal :=
  let s := j.sector j.openSector
  { j.setSector j.openSector { s with valid := s.valid ++ [⟨j.writeSlot, j.nextSequence, secondsField r.seconds⟩] } with
    newest := some j.nextSequence, writeSlot := j.writeSlot + 1, failureCount := 0 }

/-- The open sector's entry with a dirty slot (R136). -/
def Journal.dirty (j : Journal) : Journal :=
  let s := j.sector j.openSector
  { j.setSector j.openSector { s with dirty := s.dirty ++ [j.writeSlot] } with
    writeSlot := j.writeSlot + 1, failureCount := j.failureCount + 1 }

/-- Failures that bring FAULTED (R136, R137). -/
def faultCount : Nat := 4

/-- What follows a program: FAULTED on exhausted sequences or too many failures, else the open sector may be used up (R133, R136 to
R138). -/
def Part.afterProgram (p : Part) : Part :=
  if p.journal.newest = some lastSequence then p.fault .sequencesExhausted
  else if faultCount ≤ p.journal.failureCount then p.fault .programFailures
  else if sectorSlots ≤ p.journal.writeSlot then p.usedUp
  else p

/-- A record program whose read-back agreed (R135). -/
def Part.commitRecord (p : Part) (r : Rec) : Part :=
  let seq := p.journal.nextSequence
  let p := { p.endOp with journal := p.journal.commit r, commit := { p.commit with inHand := none } }
  (p.announce seq r.payload).afterProgram

/-- A record program whose read-back differed (R136). -/
def Part.failRecord (p : Part) : Part := { p.endOp with journal := p.journal.dirty, freeCount := p.freeCount + 1 }.afterProgram

/-- A record program's completion with its verify outcome (R135, R136). -/
def State.recordDone (agrees : Bool) (s : State) : State :=
  match s.part.array.op, s.part.commit.inHand with
  | some .recordProgram, some r =>
    let j := s.part.journal
    let bytes := r.encode j.nextSequence
    if agrees then { s with memory := Memory.program s.memory j.openSector j.writeSlot bytes, part := s.part.commitRecord r }
    else { s with memory := Memory.garble s.memory j.openSector j.writeSlot s.part.freeCount bytes, part := s.part.failRecord }
  | _, _ => s

/-! ## Sector erases (R141, R142, R165) -/

/-- A forced adoption that waited for the erase (R165). -/
def Part.adoptionAfterErase (p : Part) : Part := p.forceAdoption

/-- The writer moves on when the open sector is used up (R138, R141). -/
def Part.resumeWriting (p : Part) : Part := if sectorSlots ≤ p.journal.writeSlot then p.usedUp else p

/-- An erase's completion at the journal controller: the sector ERASED, marks lifted, the journal WRITING, a waiting forced adoption,
and the writer moving on (R141, R142, R165; log entry 15, DEDUCED). -/
def Part.erased (p : Part) (n : Nat) : Part :=
  let p := { p.endOp with journal := p.journal.setSector n erasedSector }
  ((p.liftMarks.setJournalState .writing).adoptionAfterErase).resumeWriting

/-- A sector erase's completion (R141). -/
def State.eraseDone (s : State) : State :=
  match s.part.array.op with
  | some (.erase n) => { s with memory := Memory.erase s.memory n, part := s.part.erased n }
  | _ => s

/-! ## Settings programs (R144, R148, R166) -/

/-- An entry becomes the current entry of its kind, of its party for MARK (R148). -/
def Journal.setCurrent (j : Journal) (e : Setting) : Journal :=
  match e with
  | .profile _ _ => { j with curProfile := some e }
  | .epoch _ _ => { j with curEpoch := some e }
  | .mark q _ => j.setCurMark q (some e)

/-- A verified MARK entry in force as the larger of its mark and the party's mark as it stands (R144). -/
def Journal.raiseMark (j : Journal) (q : Party) (m : Nat) : Journal :=
  match j.mark q with
  | some n => j.setMark q (some (max m n))
  | none => j

/-- The previous mark a held Release keeps for its answer. -/
def Port.heldPrevious (t : Port) : Nat :=
  match t.inProgress.map InProgress.held with
  | some (.release n) => n
  | some (.readNext _ _) | none => 0

/-- The answer of a Release whose MARK entry has verified: the previous mark and the mark now in force (R180; log entry 18, DESIGN CHOICE). -/
def Part.answerRelease (p : Part) (q : Party) : Part :=
  p.answerHeld q .ok (.release (p.ports.get q).heldPrevious (p.markAsItWas q))

/-- What a verified entry brings about: a mark in force, its Release answered and the tail evaluated (R140, R144); a PROFILE record
handed over (R149, R166). The tail is evaluated too for a Release whose party an adoption dropped meanwhile, though no mark then comes into
force (log entry 18, DESIGN CHOICE). -/
def Part.settingVerified (p : Part) (e : PendingSetting) : Part :=
  match e.setting with
  | .mark q m =>
    let p := { p with journal := p.journal.raiseMark q m }
    let p := if e.answers then p.answerRelease q else p
    if e.release then p.evaluateTail else p
  | .profile _ _ | .epoch _ _ =>
    match e.record with
    | some r => p.handRecord r
    | none => p

/-- The head of the pending settings work taken off when `take` holds, and its consequences. -/
def Part.takeSetting (p : Part) (take : Bool) : Part :=
  match p.journal.pendingSettings, take with
  | e :: rest, true => { p with journal := { p.journal with pendingSettings := rest } }.settingVerified e
  | _, _ => p

/-- A settings program that failed its verify: the failure counted, FAULTED at the fourth (R136, R148). -/
def Part.failSetting (p : Part) : Part :=
  let p := { p with journal := { p.journal with failureCount := p.journal.failureCount + 1 }, freeCount := p.freeCount + 1 }
  if faultCount ≤ p.journal.failureCount then p.fault .programFailures else p

/-- A settings entry verified at the active sector's write slot (R148). -/
def Journal.commitSetting (j : Journal) (e : Setting) : Journal :=
  { j.setCurrent e with settingsSlot := j.settingsSlot + 1, nextSettings := j.nextSettings + 1, failureCount := 0 }

/-- The completion of a plain settings program (R148). -/
def State.settingDone (agrees : Bool) (s : State) : State :=
  match s.part.array.op, s.part.journal.pendingSettings with
  | some .settingsProgram, e :: _ =>
    let j := s.part.journal
    let bytes := e.setting.encode j.nextSettings
    if agrees then
      { s with memory := Memory.program s.memory j.settingsActive j.settingsSlot bytes
               part := { s.part.endOp with journal := j.commitSetting e.setting }.takeSetting true }
    else
      { s with memory := Memory.garble s.memory j.settingsActive j.settingsSlot s.part.freeCount bytes
               part := { s.part.endOp with journal := { j with settingsSlot := j.settingsSlot + 1 } }.failSetting }
  | _, _ => s

/-! ## Compactions (R150) -/

/-- A copy verified at the target sector (R150). -/
def Journal.commitCopy (j : Journal) (e : Setting) (rest : List (Setting × Bool)) (slot : Nat) : Journal :=
  { j.setCurrent e with compaction := some ⟨rest, slot + 1⟩, nextSettings := j.nextSettings + 1, failureCount := 0 }

/-- The compaction's next copy about to start its program: where its settings sequence is not assigned the journal is FAULTED (R148). -/
def Part.numberNextCopy (p : Part) : Part :=
  match p.journal.compaction with
  | some ⟨_ :: _, _⟩ => if lastSequence < p.journal.nextSettings then p.fault .sequencesExhausted else p
  | _ => p

/-- The completion of one copy of a compaction with its verify outcome, then the next copy's start (R150). A copy whose settings sequence
is not assigned brings FAULTED (R148). -/
def State.copyDone (agrees : Bool) (s : State) : State :=
  match s.part.array.op, s.part.journal.compaction with
  | some .compaction, some ⟨(e, isTrigger) :: rest, slot⟩ =>
    let j := s.part.journal
    let bytes := e.encode j.nextSettings
    if lastSequence < j.nextSettings then s.act (fun p => p.fault .sequencesExhausted)
    else if agrees then
      { s with memory := Memory.program s.memory j.otherSettings slot bytes
               part := ({ s.part with journal := j.commitCopy e rest slot }.takeSetting isTrigger).numberNextCopy }
    else
      { s with memory := Memory.garble s.memory j.otherSettings slot s.part.freeCount bytes
               part := { s.part with journal := { j with compaction := some ⟨(e, isTrigger) :: rest, slot + 1⟩ } }.failSetting }
  | _, _ => s

/-- The copies still to be programmed completed, with the verify outcomes given and agreeing where none is given. -/
def State.copiesDone : Nat → List Bool → State → State
  | 0, _, s => s
  | fuel + 1, vs, s => State.copiesDone fuel (vs.drop 1) (s.copyDone (vs.headD true))

/-- The full sector erased and the other one active with its write slot after the copies (R150). -/
def Journal.endCompaction (j : Journal) (slot : Nat) : Journal :=
  { j with settingsActive := j.otherSettings, settingsSlot := slot, compaction := none }

/-- The compaction's erase completed (R150). -/
def State.compactionErased (s : State) : State :=
  match s.part.array.op, s.part.journal.compaction with
  | some .compaction, some ⟨[], slot⟩ =>
    let j := s.part.journal
    { s with memory := Memory.erase s.memory j.settingsActive, part := { s.part.endOp with journal := j.endCompaction slot } }
  | _, _ => s

/-! ## Read bursts (R178) -/

/-- A read burst's landing at its port (R178). -/
def State.burstDone (s : State) : State :=
  match s.part.array.op with
  | some (.burst q) =>
    match (s.part.ports.get q).burst with
    | .inFlight start _ => s.act (fun p => p.burstLands q (burstRecords s.memory p.journal start))
    | .absent | .standing => s.act (fun p => p.burstLands q [])
  | _ => s

/-! ## The commands -/

/-- RECORD_PROGRAM_COMPLETE (R135). -/
def execRecordProgramComplete (agrees : Bool) (s : State) : Host.Outcome State Fault Refusal :=
  .next (s.run (State.recordDone agrees))

/-- SECTOR_ERASE_COMPLETE (R141). -/
def execSectorEraseComplete (s : State) : Host.Outcome State Fault Refusal := .next (s.run State.eraseDone)

/-- SETTINGS_PROGRAM_COMPLETE (R148): a plain settings program's completion, or one copy's of a compaction. -/
def execSettingsProgramComplete (agrees : Bool) (s : State) : Host.Outcome State Fault Refusal :=
  .next (s.run (fun s => if s.part.array.op = some .compaction then s.copyDone agrees else s.settingDone agrees))

/-- The most copies and retries a compaction can take before FAULTED: four copies, three failures before each success at most. -/
def copyFuel : Nat := 16

/-- COMPACTION_COMPLETE (R150): the copies still to be programmed, with their verify outcomes, then the erase of the full sector. -/
def execCompactionComplete (verifies : List Bool) (s : State) : Host.Outcome State Fault Refusal :=
  .next (s.run (fun s => (State.copiesDone copyFuel verifies s).compactionErased))

/-- READ_BURST_LANDS (R178). -/
def execReadBurstLands (s : State) : Host.Outcome State Fault Refusal := .next (s.run State.burstDone)

end Sys2Proof.Machine
end

