-- ==== Sys2Proof/Machine/Notes.lean ====
section
/-! DEFINITION. A port's note: its record, its closing, its timeout (spec 11, section 11.7). -/

namespace Sys2Proof.Machine

/-- The most characters a note holds (R183). -/
def noteRoom : Nat := 96

/-- A note's NOTE record with a closure, built now (R184). -/
def Part.noteRecord (p : Part) (q : Party) (c : NoteContent) (closure : NoteClosure) : Rec :=
  p.buildRec (.party q) p.nowFrame (.note c.topic c.beginFrame closure c.truncated c.text)

/-- A port's note replaced. -/
def Part.setNote (p : Part) (q : Party) (n : Note) : Part := p.mapPort q (fun t => { t with note := n })

/-- A note closed by the part: IDLE when its record is admitted, else waiting with it (R185, R186). -/
def Part.closeNote (p : Part) (q : Party) (c : NoteContent) (closure : NoteClosure) : Part :=
  match p.offer (p.noteRecord q c closure) with
  | some p' => p'.setNote q .idle
  | none => p.setNote q (.awaiting c (p.noteRecord q c closure))

/-- The content of an assembling note whose timeout has been reached (R185). -/
def Part.noteDue (p : Part) (q : Party) : Option NoteContent :=
  match (p.ports.get q).note with
  | .assembling c last => if last + p.profile.inForce.noteTimeout.toNat * 1000 ≤ p.localTime then some c else none
  | .idle | .awaiting _ _ => none

/-- A note's timeout when it is due (R185). -/
def Part.noteExpiry (p : Part) (q : Party) : Part :=
  match p.noteDue q with
  | some c => p.closeNote q c .timeout
  | none => p

/-- A fresh note (R182). -/
def freshNote (topic : Byte) (frame : Nat) : NoteContent := ⟨topic, [], frame, false⟩

/-- Characters added to a note's text; those beyond 96 are dropped and truncated is set (R183). -/
def NoteContent.append (c : NoteContent) (chars : List Byte) : NoteContent :=
  { c with text := (c.text ++ chars).take noteRoom, truncated := c.truncated || decide (noteRoom < c.text.length + chars.length) }

/-- A note as a port shows it (R175, R186). -/
def Note.view : Note → NoteView
  | .idle => .idle
  | .assembling c _ => .assembling c.topic c.text.length c.truncated
  | .awaiting c _ => .awaiting c.topic c.text.length c.truncated

end Sys2Proof.Machine
end

