-- ==== Sys2Proof/Machine/LinkFrames.lean ====
section
/-! DEFINITION. The link checks every request passes, faulty request frames and ended transfers (spec 11, section 11.2). -/

namespace Sys2Proof.Machine

/-! ## Checks 4 to 6 of R172 -/

/-- Check 6: SUPPLY-FAIL not taken (R172). -/
def Part.gateFailing (p : Part) (q : Party) (tag : Byte) (body : Part → Part) : Part :=
  if p.failing then p.answer q tag .supplyFailing .none else body p

/-- Check 5: the journal not STARTING (R172). -/
def Part.gateStarting (p : Part) (q : Party) (tag : Byte) (body : Part → Part) : Part :=
  if p.isStarting then p.answer q tag .starting .none else body p

/-- Check 4: no earlier request of the port in progress (R172). -/
def Part.gateBusy (p : Part) (q : Party) (tag : Byte) (body : Part → Part) : Part :=
  if (p.ports.get q).inProgress.isSome then p.answer q tag .busy .none else body p

/-- The transfer that brings a request in (R173; log entry 10, DEDUCED). -/
def Part.openTransfer (p : Part) (q : Party) : Part := p.mapPort q Port.newTransfer

/-- A request that checks 4 and 5 apply to. -/
def Part.request (q : Party) (tag : Byte) (body : Part → Part) (p : Part) : Part :=
  (p.openTransfer q).gateBusy q tag (fun p => p.gateStarting q tag body)

/-- A request that checks 4, 5 and 6 apply to. -/
def Part.guardedRequest (q : Party) (tag : Byte) (body : Part → Part) (p : Part) : Part :=
  p.request q tag (fun p => p.gateFailing q tag body)

/-! ## Link errors (R172) -/

/-- The payload length a frame states. -/
def statedLength (bs : List Byte) : Nat := (bs.getD 2 0#8).toNat

/-- The largest payload length of a request. -/
def maxRequest : Nat := 248

/-- The bytes of a request frame of a stated length. -/
def requestBytes (bs : List Byte) : List Byte := bs.take (statedLength bs + 5)

/-- The link error that bytes clocked in bring, by the checks in their order; absent when they form no complete request or a good one
(R172). -/
def linkError (bs : List Byte) : Option Status :=
  if bs.length < 3 then none
  else if maxRequest < statedLength bs then some .badFrame
  else if bs.length < statedLength bs + 5 then none
  else if !checkHolds (requestBytes bs) then some .linkCrc
  else match requestSize (bs.getD 0 0#8).toNat (statedLength bs) with
    | none => some .unknownRequest
    | some false => some .badFrame
    | some true => none

/-- Whether bytes clocked in are an incomplete request (R172); no byte at all is none (log entry 10, DEDUCED). -/
def isIncomplete (bs : List Byte) : Bool :=
  !bs.isEmpty && (decide (bs.length < 3) || (decide (statedLength bs ≤ maxRequest) && decide (bs.length < statedLength bs + 5)))

/-- A faulty request frame: answered with its link error, echoing the tag byte, and counted (R172). -/
def Part.frameError (p : Part) (q : Party) (frame : List Byte) : Part :=
  match linkError frame with
  | some status =>
    ((p.openTransfer q).answer q (frame.getD 1 0#8) status .none).mapPort q Port.countLinkError
  | none => p

/-- A transfer's end at a port: a response not clocked out is discarded, a request in progress is abandoned, and an incomplete request
is discarded and counted (R172, R173). -/
def Port.endTransfer (clockedIn : List Byte) (t : Port) : Port :=
  if t.response.isSome || t.inProgress.any (fun r => !r.abandoned) then t.newTransfer
  else if isIncomplete clockedIn then t.countLinkError
  else t

/-! ## The commands -/

/-- REQUEST_FRAME_ERROR (R172). -/
def execRequestFrameError (port : Party) (frame : List Byte) (s : State) : Host.Outcome State Fault Refusal :=
  .next (s.runPart (fun p => p.frameError port frame))

/-- TRANSFER_END (R173). -/
def execTransferEnd (port : Party) (clockedIn : List Byte) (s : State) : Host.Outcome State Fault Refusal :=
  .next (s.runPart (fun p => p.mapPort port (Port.endTransfer clockedIn)))

end Sys2Proof.Machine
end

