-- ==== Sys2Proof/Machine/CaptureRequests.lean ====
section
/-! DEFINITION. Capture Now, Read Capture, Release Capture (spec 07) and Read Recurrence (spec 06), and their commands. -/

namespace Sys2Proof.Machine

/-- Capture Now taken (R105). -/
def Part.captureNow (q : Party) (tag : Byte) (p : Part) : Part :=
  match p.takeSlot .manual none (.party q) p.nowFrame with
  | some ((serial, i), p') => p'.answer q tag .ok (.captureTaken serial p.nowFrame i)
  | none => p.answer q tag .captureBusy .none

/-- The header of a Read Capture response (R112). -/
def Capture.header (c : Capture) (serial : Nat) (s : CapSlot) : CaptureHeader where
  serial := serial
  held := s.held
  trigger := s.trigger
  event := s.event
  origin := s.origin
  triggerFrame := s.triggerFrame
  firstFrame := s.firstFrame
  preCount := s.preCount
  framesHeld := (c.chainFrames serial).length
  slots := (c.chain serial).length
  truncated := s.truncated

/-- The status of a Read Capture whose serial a slot holds (R112). -/
def readCaptureStatus (held : Bool) (offset count frames : Nat) : Status :=
  if held then (if frames ≤ offset then .outOfRange else .ok)
  else if frames - offset < count then .partialFill else .ok

/-- Read Capture taken (R112). -/
def Part.readCapture (q : Party) (tag : Byte) (serial : BitVec 32) (offset : BitVec 16) (count : Byte) (p : Part) : Part :=
  if inRange 1 64 count.toNat then
    match (p.capture.chain serial.toNat).head? with
    | none => p.answer q tag .captureGone .none
    | some s =>
      let frames := p.capture.chainFrames serial.toNat
      let status := readCaptureStatus s.held offset.toNat count.toNat frames.length
      p.answer q tag status (.capture (p.capture.header serial.toNat s) ((frames.drop offset.toNat).take count.toNat))
  else p.answer q tag .outOfRange .none

/-- A party added to a chain's released set, in every slot (R110). -/
def Capture.addReleased (c : Capture) (serial : Nat) (q : Party) : Capture :=
  c.mapChain serial (fun s => { s with released := PartySet.add s.released q })

/-- Whether a released set holds every enrolled party (R110). -/
def allReleased (pr : Profile) (released : PartySet) : Bool :=
  Party.list.all (fun q => !pr.isEnrolled q || released.get q)

/-- A HELD chain released by a party: freed when every enrolled party has released it (R110). -/
def Part.releaseChain (p : Part) (q : Party) (tag : Byte) (serial : Nat) (s : CapSlot) : Part :=
  if allReleased p.profile.inForce (PartySet.add s.released q) then
    { p with capture := p.capture.freeChain serial }.answer q tag .ok (.captureReleased true)
  else { p with capture := p.capture.addReleased serial q }.answer q tag .ok (.captureReleased false)

/-- Release Capture taken (R110). -/
def Part.releaseCapture (q : Party) (tag : Byte) (serial : BitVec 32) (p : Part) : Part :=
  if p.profile.inForce.isEnrolled q then
    match (p.capture.chain serial.toNat).head? with
    | none => p.answer q tag .captureGone .none
    | some s => if s.held then p.releaseChain q tag serial.toNat s else p.answer q tag .captureBusy .none
  else p.answer q tag .notEnrolled .none

/-- Entries of one Read Recurrence response (R99). -/
def recurrencePage : Nat := 16

/-- The resume number: the number after the last entry returned, when more lie beyond (R99). -/
def resumeNumber (items : List RecurItem) : Option Nat :=
  if recurrencePage < items.length then ((items.take recurrencePage).getLast?).map (fun x => x.number + 1) else none

/-- A Read Recurrence response with the entries found, at most 16 returned (R99). -/
def Part.recurrenceBody (p : Part) (items : List RecurItem) : Body :=
  .recurrence p.receiver.epoch p.nowFrame p.profile.number p.recurrence.revision p.recurrence.validCount
    (items.take recurrencePage) (resumeNumber items)

/-- Read Recurrence taken (R99). -/
def Part.readRecurrence (q : Party) (tag start : Byte) (p : Part) : Part :=
  if start.toNat ≤ 63 then p.answer q tag .ok (p.recurrenceBody (p.recurrence.itemsFrom start.toNat))
  else p.answer q tag .outOfRange (p.recurrenceBody [])

/-! ## The commands -/

/-- CAPTURE_NOW (R105). -/
def execCaptureNow (port : Party) (tag : Byte) (s : State) : Host.Outcome State Fault Refusal :=
  .next (s.runPart (Part.guardedRequest port tag (Part.captureNow port tag)))

/-- READ_CAPTURE (R112). -/
def execReadCapture (port : Party) (tag : Byte) (serial : BitVec 32) (offset : BitVec 16) (count : Byte) (s : State) :
    Host.Outcome State Fault Refusal :=
  .next (s.runPart (Part.request port tag (Part.readCapture port tag serial offset count)))

/-- RELEASE_CAPTURE (R110). -/
def execReleaseCapture (port : Party) (tag : Byte) (serial : BitVec 32) (s : State) : Host.Outcome State Fault Refusal :=
  .next (s.runPart (Part.request port tag (Part.releaseCapture port tag serial)))

/-- READ_RECURRENCE (R99). -/
def execReadRecurrence (port : Party) (tag start : Byte) (s : State) : Host.Outcome State Fault Refusal :=
  .next (s.runPart (Part.request port tag (Part.readRecurrence port tag start)))

end Sys2Proof.Machine
end

