-- ==== Sys2Proof/Machine/LiveViews.lean ====
section
/-! DEFINITION. What Identify and Read Live give (spec 11, section 11.4), and their commands. -/

namespace Sys2Proof.Machine

/-- Identify's content (R174). -/
def Part.identifyInfo (p : Part) : IdentifyInfo where
  partCode := 0x7A40#16
  revision := 1
  unitSerial := Config.unitSerial
  journal := p.journal.state
  epoch := if p.isStarting then none else some p.receiver.epoch
  newest := if p.isStarting then none else p.journal.newest
  profileNumber := if p.isStarting then none else some p.profile.number

/-- A value set as Read Live reports it (R28). -/
def ValueSet.report (vs : ValueSet) : LastValues where
  boundary := vs.result.boundary
  forced := vs.result.forced
  freeRunning := vs.result.freeRunning
  substituted := vs.result.substituted
  locked := vs.result.locked
  closure := vs.result.closure
  values := Tri.build (fun c => (vs.entries.get c).map (fun v => (v.u, v.overRange)))

/-- MEASUREMENT (R2, R3, R18, R28, R88). -/
def Part.measurementView (p : Part) : MeasurementView where
  acq := p.receiver.acq
  checkFailed := p.receiver.checkFailed
  duplicates := p.receiver.duplicates
  substituted := p.receiver.substituted
  mode := p.tracker.mode
  active := p.tracker.active
  lastCrossed := p.tracker.lastCrossed
  lastValues := p.engine.last.map ValueSet.report
  index := p.aggregator.index
  start := p.aggregator.start
  stop := p.aggregator.stop
  halfCycles := p.aggregator.halfCycles
  flags := p.aggregator.flags
  low := p.aggregator.low
  high := p.aggregator.high
  lockedH := p.aggregator.lockedH
  lockedN := p.aggregator.lockedN

/-- An OPEN machine with the number shown: its own, or the burst number its fold machine holds (R56). -/
def eventView (burst : Option Nat) (e : OpenEvent) : EventView := ⟨if e.folded then burst else e.number, e⟩

/-- A channel's means as shown: a channel not in use has no window and no mean (R58; log entry 12, DESIGN CHOICE). -/
def Part.shownMeans (p : Part) (means : Chan → Nat) : Tri (Option Nat) := Tri.build (fun c => if p.inUse.get c then some (means c) else none)

/-- The RVC monitor (R58). -/
def Part.rvcView (p : Part) : RvcView :=
  match p.rvc.mode with
  | .steadyWait => .steadyWait p.rvc.window.length
  | .steady => .steady (p.shownMeans (windowMean p.profile.inForce.rvcWindow.toNat p.rvc.window))
  | .candidate => .candidate p.rvc.start p.rvc.count (p.shownMeans p.rvc.preMean.get) p.rvc.uMax p.rvc.uMaxChan p.rvc.affected

/-- EVENTS (R56, R58, R77). -/
def Part.eventsView (p : Part) : EventsView where
  flags := Tri.build (fun c => if p.inUse.get c then some (p.classifier.flags.get c) else none)
  dip := p.classifier.dip.map (eventView p.folds.dip.burst)
  swell := p.classifier.swell.map (eventView p.folds.swell.burst)
  interruption := p.classifier.interruption.map (eventView none)
  nextEvent := p.classifier.nextEvent
  rvc := p.rvcView
  folds := p.folds

/-- One slot (R113). -/
def CapSlot.view (s : CapSlot) : SlotView where
  held := s.held
  serial := s.serial
  trigger := s.trigger
  event := s.event
  origin := s.origin
  triggerFrame := s.triggerFrame
  preCount := s.preCount
  filled := s.frames.length
  remaining := s.remaining
  next := s.next
  truncated := s.truncated
  released := s.released
  hold := if s.held then some (s.holdStart, s.holdStart + s.holdLength) else none

/-- CAPTURE (R113). -/
def Part.captureView (p : Part) : CaptureView where
  slots := p.capture.slots.map (fun s => s.map CapSlot.view)
  ringCount := p.capture.ring.length
  nextSerial := p.capture.nextSerial

/-- The requester that the array serves (R127). -/
def ArrayOp.requester : ArrayOp → Requester
  | .recordProgram | .settingsProgram | .compaction | .erase _ => .writer
  | .burst q => .port q

/-- The parties whose MARK entries wait (R147). -/
def Journal.marksPending (j : Journal) : PartySet :=
  let waits := fun q => j.pendingSettings.any (fun e => isMarkOf q e.setting)
  ⟨waits .supply, waits .premises, waits .field⟩

/-- JOURNAL (R127, R129, R147, R169). Of the array it gives whether it is BUSY and the requester, and not the operation in progress (log
entry 45, DESIGN CHOICE). -/
def Part.journalView (p : Part) : JournalView where
  priority := p.commit.priority.length
  portClass := p.commit.portClass
  bulk := p.commit.bulk.length
  credit := p.commit.credit
  weight := p.profile.inForce.weight
  overflow := p.commit.overflow
  withheld := p.commit.withheld
  waitingNotes := p.waitingNotes
  inHand := p.commit.inHand.map (fun r => r.payload.kind)
  arrayBusy := p.array.op.isSome
  requester := p.array.op.map ArrayOp.requester
  state := p.journal.state
  faultCause := p.journal.faultCause
  openSector := p.journal.openSector
  writeSlot := p.journal.writeSlot
  spare := p.journal.spare
  tail := p.journal.tail
  oldest := p.journal.oldest
  newest := p.journal.newest
  markSupply := p.journal.markSupply
  markPremises := p.journal.markPremises
  failureCount := p.journal.failureCount
  settingsActive := p.journal.settingsActive
  settingsSlot := p.journal.settingsSlot
  settingsPending := !p.journal.pendingSettings.isEmpty || p.journal.compaction.isSome
  marksPending := p.journal.marksPending
  profileNumber := p.profile.number
  proposal := p.profile.proposal.map (fun x => (x.number, x.proposer))
  adoption := p.profile.deferral

/-- PORT (R175, R188, R193). -/
def Port.view (t : Port) : PortView where
  cursor := t.cursor
  buffered := t.buffer.length
  streaming := t.streaming
  burst := t.burst
  overtaken := t.overtaken
  note := t.note.view
  notices := t.notices
  masked := t.masked
  lowLevel := t.lowLevel
  attention := t.attention
  tallyA := t.tallyA
  tallyB := t.tallyB
  tallyC := t.tallyC

/-- The section a selector names (R175, spec 11.9). -/
def Part.section_ (p : Part) (q : Party) (selector : Byte) : Option LiveView :=
  match selector.toNat with
  | 1 => some (.measurement p.measurementView)
  | 2 => some (.events p.eventsView)
  | 3 => some (.capture p.captureView)
  | 4 => some (.journal p.journalView)
  | 5 => some (.port (p.ports.get q).view)
  | _ => none

/-- Identify taken (R174). -/
def Part.identify (q : Party) (tag : Byte) (p : Part) : Part := p.answer q tag .ok (.identify p.identifyInfo)

/-- Read Live taken (R175). -/
def Part.readLive (q : Party) (tag selector : Byte) (p : Part) : Part :=
  match p.section_ q selector with
  | some v => p.answer q tag .ok (.live p.receiver.epoch p.nowFrame v)
  | none => p.answer q tag .outOfRange .none

/-- IDENTIFY (R174): answered even while the journal is STARTING. -/
def execIdentify (port : Party) (tag : Byte) (s : State) : Host.Outcome State Fault Refusal :=
  .next (s.runPart (fun p => (p.openTransfer port).gateBusy port tag (Part.identify port tag)))

/-- READ_LIVE (R175). -/
def execReadLive (port : Party) (tag selector : Byte) (s : State) : Host.Outcome State Fault Refusal :=
  .next (s.runPart (Part.request port tag (Part.readLive port tag selector)))

end Sys2Proof.Machine
end

