-- ==== Sys2Proof/Machine/NoticeRequests.lean ====
section
/-! DEFINITION. Next Notice, Acknowledge Attention, Set Notice Mask and the tally requests (spec 12), and their commands. -/

namespace Sys2Proof.Machine

/-! ## Next Notice (R190) -/

/-- Whether a kind is at level LOW at a port (R188). -/
def Port.isLow (t : Port) (k : NoticeKind) : Bool := k.maskable && t.lowLevel.getLsbD (k.number - 1)

/-- A kind's place in the ranking: unmaskable kinds, then HIGH, then LOW, each in ascending number (R190). -/
def Port.rank (t : Port) (k : NoticeKind) : Nat := if t.isLow k then 16 + k.number else k.number

/-- The highest-ranked notice of a list. -/
def topNotice (t : Port) : List Notice → Option Notice
  | [] => none
  | n :: ns =>
    match topNotice t ns with
    | none => some n
    | some m => if t.rank n.kind ≤ t.rank m.kind then some n else some m

/-- The highest-ranked pending notice cleared (R190). -/
def Port.clearTop (t : Port) : Port :=
  match topNotice t t.notices with
  | some n => { t with notices := t.notices.filter (fun m => decide (m.kind ≠ n.kind)) }
  | none => t

/-- Next Notice taken (R190). -/
def Part.nextNotice (q : Party) (tag : Byte) (p : Part) : Part :=
  (p.mapPort q Port.clearTop).answer q tag .ok (.notice (topNotice (p.ports.get q) (p.ports.get q).notices))

/-! ## Attention and masks (R191, R192) -/

/-- Acknowledge Attention taken (R191). -/
def Part.acknowledgeAttention (q : Party) (tag : Byte) (p : Part) : Part :=
  (p.mapPort q (fun t => { t with attention := false })).answer q tag .ok .none

/-- The bits of a mask or level set that name no maskable kind: kinds 1 to 3 and 13 to 16 (R192, spec 11.9). -/
def unmaskableBits : BitVec 16 := 0xF007#16

/-- Whether a set names only maskable kinds (R192). -/
def namesMaskable (s : BitVec 16) : Bool := decide (s &&& unmaskableBits = 0#16)

/-- Whether a pending notice's kind passes from masked to unmasked (R191). -/
def Port.unmasks (t : Port) (masks : BitVec 16) (n : Notice) : Bool :=
  t.isMasked n.kind && !({ t with masked := masks } : Port).isMasked n.kind

/-- The masks and levels set; a pending kind that is unmasked asserts ATTENTION (R191, R192). -/
def Port.setMasks (t : Port) (masks levels : BitVec 16) : Port :=
  { t with masked := masks, lowLevel := levels, attention := t.attention || t.notices.any (t.unmasks masks) }

/-- Set Notice Mask taken (R192). -/
def Part.setNoticeMask (q : Party) (tag : Byte) (masks levels : BitVec 16) (p : Part) : Part :=
  if namesMaskable masks && namesMaskable levels then
    (p.mapPort q (fun t => t.setMasks masks levels)).answer q tag .ok (.masks masks levels)
  else p.answer q tag .outOfRange .none

/-! ## Tallies (R193) -/

/-- The tallies of a port by letter. -/
inductive TallyName
  | a | b | c
  deriving DecidableEq, Repr

/-- The tally and selection that Select Tally's codes name; absent for a code not listed or a selection not listed for the tally
(R193, spec 11.9). -/
def tallyChoice (tally selection : Byte) : Option (TallyName × Selection) :=
  match tally.toNat, selection.toNat with
  | 1, 1 => some (.a, .dips)
  | 1, 2 => some (.a, .swells)
  | 2, 3 => some (.b, .interruptions)
  | 2, 4 => some (.b, .rvcs)
  | 2, 5 => some (.b, .bursts)
  | 3, 6 => some (.c, .foldedEvents)
  | 3, 7 => some (.c, .capturesRefused)
  | 3, 8 => some (.c, .recordsWithheld)
  | 3, 9 => some (.c, .linkErrors)
  | _, _ => none

/-- A tally given a selection and zeroed (R193). -/
def Port.selectTally (t : Port) (name : TallyName) (s : Selection) : Port :=
  match name with
  | .a => { t with tallyA := ⟨s, 0⟩ }
  | .b => { t with tallyB := ⟨s, 0⟩ }
  | .c => { t with tallyC := ⟨s, 0⟩ }

/-- Select Tally taken (R193). -/
def Part.selectTally (q : Party) (tag tally selection : Byte) (p : Part) : Part :=
  match tallyChoice tally selection with
  | some (name, s) => (p.mapPort q (fun t => t.selectTally name s)).answer q tag .ok .none
  | none => p.answer q tag .outOfRange .none

/-- Read Tallies taken (R193). -/
def Part.readTallies (q : Party) (tag : Byte) (p : Part) : Part :=
  let t := p.ports.get q
  p.answer q tag .ok (.tallies t.tallyA t.tallyB t.tallyC)

/-! ## The commands -/

/-- NEXT_NOTICE (R190). -/
def execNextNotice (port : Party) (tag : Byte) (s : State) : Host.Outcome State Fault Refusal :=
  .next (s.runPart (Part.request port tag (Part.nextNotice port tag)))

/-- ACKNOWLEDGE_ATTENTION (R191). -/
def execAcknowledgeAttention (port : Party) (tag : Byte) (s : State) : Host.Outcome State Fault Refusal :=
  .next (s.runPart (Part.request port tag (Part.acknowledgeAttention port tag)))

/-- SET_NOTICE_MASK (R192). -/
def execSetNoticeMask (port : Party) (tag : Byte) (masks levels : BitVec 16) (s : State) : Host.Outcome State Fault Refusal :=
  .next (s.runPart (Part.request port tag (Part.setNoticeMask port tag masks levels)))

/-- SELECT_TALLY (R193). -/
def execSelectTally (port : Party) (tag tally selection : Byte) (s : State) : Host.Outcome State Fault Refusal :=
  .next (s.runPart (Part.request port tag (Part.selectTally port tag tally selection)))

/-- READ_TALLIES (R193). -/
def execReadTallies (port : Party) (tag : Byte) (s : State) : Host.Outcome State Fault Refusal :=
  .next (s.runPart (Part.request port tag (Part.readTallies port tag)))

end Sys2Proof.Machine
end

