-- ==== Sys2Proof/Machine/Power.lean ====
section
/-! DEFINITION. Power, the RESET input, SUPPLY-FAIL and the start-up scan's end (spec 13) and their commands. -/

namespace Sys2Proof.Machine

/-! ## The failure sequence (R195) -/

/-- Step 1: the failure frame fixed, no further frame taken (R9). -/
def Part.startFailing (p : Part) : Part :=
  { p with failing := true, receiver := { p.receiver with failureFrame := some p.receiver.frameIndex } }

/-- Step 7: a pending proposal discarded (R170). -/
def Part.discardProposal (p : Part) : Part := { p with profile := { p.profile with proposal := none, deferral := none } }

/-- The SUPPLY_FAIL record's payload: the recorded events closed, and the occupancies before any record of the sequence (R195). -/
def Part.failPayload (p : Part) : Payload :=
  .supplyFail p.classifier.openNumbers p.commit.priority.length p.commit.portClass p.commit.bulk.length

/-- SUPPLY-FAIL taken: the eight steps in order (R195). -/
def Part.supplyFail (p : Part) : Part :=
  let payload := p.failPayload
  let p := p.startFailing.failClose.forgetCandidate
  let p := (p.handBursts .supplyFail p.nowFrame).captureStop.failInterval.discardProposal
  p.handRecord (p.buildRec .recorder p.nowFrame payload)

/-- SUPPLY_FAIL high at a part that is recording: taken, or an awaited restart cancelled (R195, R197). -/
def State.takeSupplyFail (s : State) : State :=
  if s.part.isStarting then s
  else if s.part.failing then { s with recovering := false }
  else s.act Part.supplyFail

/-- SUPPLY_FAIL low: the restart of R197 is waited for when the failure was taken. -/
def State.releaseSupplyFail (s : State) : State := if s.part.failing then { s with recovering := true } else s

/-! ## The scan's end (R154, R199) -/

/-- The start-up scan ended: the array repaired, the part set up, a SUPPLY-FAIL that was held taken (R154, R195, R199). -/
def State.scanEnds (s : State) : State :=
  if s.part.isStarting then
    let s := { s with memory := repaired s.memory, part := s.part.startUp (scanSettings s.memory) (scanRing s.memory) }
    if s.pins.supplyFail then s.takeSupplyFail else s
  else s

/-! ## The commands -/

/-- POWER_ON (R198): a power cycle when power was already applied (log entry 16, DESIGN CHOICE). -/
def execPowerOn (s : State) : Host.Outcome State Fault Refusal :=
  .next { s.restart .powerOn with pins := { s.pins with power := true } }

/-- RESET_ASSERTED (R198). -/
def execResetAsserted (s : State) : Host.Outcome State Fault Refusal :=
  .next { (if s.alive then s.restart .resetPin else s) with pins := { s.pins with resetHigh := false } }

/-- RESET_RELEASED (R198): the restart begins, every block being at its reset values. -/
def execResetReleased (s : State) : Host.Outcome State Fault Refusal := .next { s with pins := { s.pins with resetHigh := true } }

/-- START_UP_SCAN_COMPLETE (R154). -/
def execStartUpScanComplete (s : State) : Host.Outcome State Fault Refusal := .next (s.run State.scanEnds)

/-- SUPPLY_FAIL_TAKEN (R195). -/
def execSupplyFailTaken (s : State) : Host.Outcome State Fault Refusal :=
  .next ({ s with pins := { s.pins with supplyFail := true } }.run State.takeSupplyFail)

/-- SUPPLY_FAIL_RELEASED (R197). -/
def execSupplyFailReleased (s : State) : Host.Outcome State Fault Refusal :=
  .next ({ s with pins := { s.pins with supplyFail := false } }.run State.releaseSupplyFail)

/-- SUPPLY_RECOVERED (R197). -/
def execSupplyRecovered (s : State) : Host.Outcome State Fault Refusal := .next (s.run State.recoverDrained)

/-- POWER_ENDS (R130). -/
def execPowerEnds (s : State) : Host.Outcome State Fault Refusal :=
  .next (if s.pins.power then { s.restart .powerOn with pins := { s.pins with power := false } } else s)

end Sys2Proof.Machine
end

