-- ==== Sys2Proof/Machine/ProfileRequests.lean ====
section
/-! DEFINITION. Read Profile, Propose, Concur and Withdraw (spec 10, section 10.3), and their commands. -/

namespace Sys2Proof.Machine

/-- How a pending proposal stands (R169). -/
def Part.standing (p : Part) (pr : Proposal) : ProposalStanding :=
  if pr.consented then
    .consented p.profile.deferral (p.localTime - ((p.profile.deferral.map Deferral.start).getD p.localTime))
      (p.deferConditions pr.contents)
  else .waiting (pr.expiry - p.localTime)

/-- Read Profile taken (R169). -/
def Part.readProfile (q : Party) (tag selector : Byte) (p : Part) : Part :=
  match selector.toNat, p.profile.proposal with
  | 0, _ => p.answer q tag .ok (.profileInForce p.profile.number p.profile.inForce)
  | 1, some pr => p.answer q tag .ok (.proposal pr.number pr.proposer pr.contents pr.agreeing (p.standing pr))
  | 1, none => p.answer q tag .noProposal .none
  | _, _ => p.answer q tag .outOfRange .none

/-- The consent rule: the agreeing set contains FIELD, or every enrolled party (R162). -/
def consents (pr : Profile) (agreeing : PartySet) : Bool :=
  agreeing.field || Party.list.all (fun q => !pr.isEnrolled q || agreeing.get q)

/-- The slot holding a proposal. -/
def Part.setProposal (p : Part) (pr : Proposal) : Part := { p with profile := { p.profile with proposal := some pr } }

/-- Consent reached: the expiry no longer runs, the adoption DEFERRED from now with the forced mark clear (R162). -/
def Part.consent (p : Part) (pr : Proposal) : Part :=
  { p with profile := { p.profile with proposal := some { pr with consented := true }, deferral := some ⟨p.localTime, false⟩ } }

/-- The consent rule applied to a proposal in the slot that is not consented (R162). -/
def Part.applyConsent (p : Part) (pr : Proposal) : Part :=
  if consents p.profile.inForce pr.agreeing && !pr.consented then p.consent pr else p

/-- PROPOSAL_PENDING noticed to the two ports other than the proposer's (R159). -/
def Part.noticeProposal (p : Part) (proposer : Party) (number : Byte) : Part :=
  Party.list.foldl (fun p q => if q = proposer then p else p.raiseAt q .proposalPending (.number number.toNat)) p

/-- A Propose carried out: the next number taken, the slot filled, consent tested, the notice raised when it is not reached
(R159, R162). -/
def Part.takeProposal (p : Part) (q : Party) (tag : Byte) (expiry : Nat) (contents : Profile) : Part :=
  let number := p.profile.lastProposal + 1
  let pr : Proposal := ⟨number, q, contents, p.localTime + expiry * 1000, PartySet.single q, false⟩
  let p := ({ p with profile := { p.profile with lastProposal := number } }.setProposal pr).answer q tag .ok (.proposalNumber number)
  if consents p.profile.inForce pr.agreeing then p.consent pr else p.noticeProposal q number

/-- The proposal pending from another party (R159). -/
def ProfileUnit.othersProposal (u : ProfileUnit) (q : Party) : Option Proposal :=
  match u.proposal with
  | some pr => if pr.proposer = q then none else some pr
  | none => none

/-- Propose taken: the checks in their order (R159). -/
def Part.propose (q : Party) (tag : Byte) (expiry : BitVec 16) (contents : Profile) (p : Part) : Part :=
  if p.profile.deferral.isSome then p.answer q tag .adopting .none
  else if !inRange 10 3600 expiry.toNat then p.answer q tag .outOfRange .none
  else
    match contents.failure, p.profile.othersProposal q with
    | some (index, code), _ => p.answer q tag .invalidProfile (.invalidProfile index code)
    | none, some other => p.answer q tag .proposalPending (.pendingProposal other.number other.proposer)
    | none, none => p.takeProposal q tag expiry.toNat contents

/-- A party joined to the agreeing set of the pending proposal, the consent rule applied (R160, R162). -/
def Part.joinAgreement (p : Part) (q : Party) (tag : Byte) (pr : Proposal) : Part :=
  let pr := { pr with agreeing := PartySet.add pr.agreeing q }
  ((p.setProposal pr).answer q tag .ok (.agreeing pr.agreeing)).applyConsent pr

/-- Concur taken (R160). -/
def Part.concur (q : Party) (tag number : Byte) (p : Part) : Part :=
  match p.profile.proposal with
  | none => p.answer q tag .noProposal .none
  | some pr =>
    if pr.number = number then p.joinAgreement q tag pr
    else p.answer q tag .staleProposal (.proposalNumber pr.number)

/-- Withdraw taken (R161). -/
def Part.withdraw (q : Party) (tag : Byte) (p : Part) : Part :=
  match p.profile.proposal with
  | none => p.answer q tag .noProposal .none
  | some pr =>
    if pr.consented then p.answer q tag .adopting .none
    else if pr.proposer = q then { p with profile := { p.profile with proposal := none } }.answer q tag .ok .none
    else p.answer q tag .notProposer .none

/-! ## The commands -/

/-- READ_PROFILE (R169). -/
def execReadProfile (port : Party) (tag selector : Byte) (s : State) : Host.Outcome State Fault Refusal :=
  .next (s.runPart (Part.request port tag (Part.readProfile port tag selector)))

/-- PROPOSE (R159). -/
def execPropose (port : Party) (tag : Byte) (expiry : BitVec 16) (profile : Profile) (s : State) :
    Host.Outcome State Fault Refusal :=
  .next (s.runPart (Part.guardedRequest port tag (Part.propose port tag expiry profile)))

/-- CONCUR (R160). -/
def execConcur (port : Party) (tag number : Byte) (s : State) : Host.Outcome State Fault Refusal :=
  .next (s.runPart (Part.guardedRequest port tag (Part.concur port tag number)))

/-- WITHDRAW (R161). -/
def execWithdraw (port : Party) (tag : Byte) (s : State) : Host.Outcome State Fault Refusal :=
  .next (s.runPart (Part.request port tag (Part.withdraw port tag)))

end Sys2Proof.Machine
end

