-- ==== Sys2Proof/Machine/StreamRequests.lean ====
section
/-! DEFINITION. Seek, Read Next, Release, Mark Time, the notes and Port Reset (spec 11, sections 11.5 to 11.8), and their commands. -/

namespace Sys2Proof.Machine

/-! ## Seek (R176) -/

/-- The cursor and status a Seek target gives; absent for a code that names no target. The sequence number serves code 00 alone. -/
def Part.seekTarget (p : Part) (q : Party) (target : Byte) (sequence : BitVec 32) : Option (Status × Nat) :=
  match target.toNat with
  | 0 =>
    let v := sequence.toNat
    let c := max p.journal.oldest (min v p.journal.nextSequence)
    some (if c = v then .ok else .clamped, c)
  | 1 => some (.ok, p.journal.oldest)
  | 2 => some (.ok, p.journal.newest.getD 0)
  | 3 =>
    if p.profile.inForce.isEnrolled q then some (.ok, (p.journal.mark q).getD p.journal.oldest) else some (.notEnrolled, 0)
  | _ => none

/-- The stream set to a cursor and the answer given (R176). -/
def Part.seekTo (p : Part) (q : Party) (tag : Byte) (status : Status) (cursor : Nat) (streaming : Bool) : Part :=
  ((p.mapPort q (fun t => t.setStream cursor streaming)).answer q tag status
    (.stream cursor p.journal.oldest p.journal.newest)).askBurst q

/-- Seek taken (R176). A prefetch option out of range is looked at before the enrolment: a Seek to MARK that fails both is answered
OUT_OF_RANGE (log entry 46, DESIGN CHOICE). -/
def Part.seek (q : Party) (tag target : Byte) (sequence : BitVec 32) (option : Byte) (p : Part) : Part :=
  match p.seekTarget q target sequence, decide (option.toNat ≤ 1) with
  | some (.notEnrolled, _), true => p.answer q tag .notEnrolled .none
  | some (status, cursor), true => p.seekTo q tag status cursor (decide (option.toNat = 1))
  | _, _ => p.answer q tag .outOfRange .none

/-! ## Read Next (R179) -/

/-- Read Next taken with a count in range: answered, or held until a landing (R179). -/
def Part.readRecords (p : Part) (q : Party) (tag : Byte) (count : Nat) : Part :=
  let p := p.mapPort q (fun t => { t with streaming := true })
  match p.readNextStep q count 0 with
  | (.answered status body, p) => (p.answer q tag status body).askBurst q
  | (.waits skipped, p) => (p.hold q tag (.readNext count skipped)).askBurst q

/-- Read Next taken (R179). -/
def Part.readNext (q : Party) (tag count : Byte) (p : Part) : Part :=
  if inRange 1 4 count.toNat then p.readRecords q tag count.toNat else p.answer q tag .outOfRange .none

/-! ## Release (R144, R180) -/

/-- The new mark a Release of `v` asks for: clamped between the party's mark and the newest committed + 1 (R144). -/
def Journal.releaseMark (j : Journal) (current v : Nat) : Nat := max current (min v j.nextSequence)

/-- A Release from an enrolled party whose mark is `current` (R144, R180). The previous mark of the OK answer is this one, the mark as it
stood when the request was taken, also where an erase lifts the party's mark before the MARK entry is verified (R142; log entry 44, DESIGN
CHOICE). -/
def Part.releaseTo (p : Part) (q : Party) (tag : Byte) (current v : Nat) : Part :=
  let m := p.journal.releaseMark current v
  match p.offerRelease q m current with
  | some p => (p.addSetting ⟨.mark q m, true, true, none⟩).hold q tag (.release current)
  | none => p.answer q tag .queueFull .none

/-- Release taken (R180). -/
def Part.release (q : Party) (tag : Byte) (value : BitVec 32) (p : Part) : Part :=
  if p.profile.inForce.isEnrolled q then p.releaseTo q tag ((p.journal.mark q).getD 0) value.toNat
  else p.answer q tag .notEnrolled .none

/-! ## Mark Time (R181) -/

/-- Mark Time taken (R181). -/
def Part.markTime (q : Party) (tag : Byte) (stated : BitVec 64) (quality : Byte) (p : Part) : Part :=
  if quality.toNat ≤ 3 then
    match p.offer (p.buildRec (.party q) p.nowFrame (.timeMark stated quality)) with
    | some p' => p'.answer q tag .ok (.timeMark p.receiver.epoch p.nowFrame)
    | none => p.answer q tag .queueFull .none
  else p.answer q tag .outOfRange .none

/-! ## Notes (R182 to R184) -/

/-- A fresh note begun (R182). -/
def Part.beginNote (p : Part) (q : Party) (topic : Byte) : Part := p.setNote q (.assembling (freshNote topic p.nowFrame) p.localTime)

/-- Note Begin taken (R182). -/
def Part.noteBegin (q : Party) (tag topic : Byte) (p : Part) : Part :=
  match (p.ports.get q).note with
  | .idle => (p.beginNote q topic).answer q tag .ok .none
  | .assembling c _ =>
    match p.offer (p.noteRecord q c .superseded) with
    | some p' => (p'.beginNote q topic).answer q tag .ok .none
    | none => p.answer q tag .queueFull .none
  | .awaiting _ _ => p.answer q tag .queueFull .none

/-- Note Text taken (R183). -/
def Part.noteText (q : Party) (tag : Byte) (chars : List Byte) (p : Part) : Part :=
  match (p.ports.get q).note with
  | .assembling c _ =>
    let c := c.append chars
    (p.setNote q (.assembling c p.localTime)).answer q tag .ok (.noteHeld c.text.length c.truncated)
  | .idle | .awaiting _ _ => p.answer q tag .noteIdle .none

/-- Note End taken (R184). -/
def Part.noteEnd (q : Party) (tag : Byte) (p : Part) : Part :=
  match (p.ports.get q).note with
  | .assembling c _ =>
    match p.offer (p.noteRecord q c .ended) with
    | some p' => (p'.setNote q .idle).answer q tag .ok .none
    | none => (p.setNote q (.assembling c p.localTime)).answer q tag .queueFull .none
  | .idle | .awaiting _ _ => p.answer q tag .noteIdle .none

/-! ## Port Reset (R186) -/

/-- A MARK entry that no Release of the port waits for any more (R186). -/
def PendingSetting.unanswered (q : Party) (e : PendingSetting) : PendingSetting :=
  match e.setting with
  | .mark q' _ => if q' = q then { e with answers := false } else e
  | .profile _ _ | .epoch _ _ => e

/-- The request in progress abandoned, its pending MARK entry kept (R186). -/
def Part.dropRequest (p : Part) (q : Party) : Part :=
  { p with journal := { p.journal with pendingSettings := p.journal.pendingSettings.map (PendingSetting.unanswered q) } }.mapPort q
    (fun t => { t with inProgress := none })

/-- An assembling note closed by the reset (R186). -/
def Part.resetNote (p : Part) (q : Party) : Part :=
  match (p.ports.get q).note with
  | .assembling c _ => p.closeNote q c .portReset
  | .idle | .awaiting _ _ => p

/-- Notices, masks, levels, ATTENTION and tallies at their reset values (R186, R188, R193). -/
def Port.resetNotices (t : Port) : Port :=
  { t with notices := [], masked := resetPort.masked, lowLevel := resetPort.lowLevel, attention := false,
           tallyA := resetPort.tallyA, tallyB := resetPort.tallyB, tallyC := resetPort.tallyC }

/-- Port Reset taken (R186). -/
def Part.portReset (q : Party) (tag : Byte) (p : Part) : Part :=
  let p := (p.dropRequest q).resetNote q
  let p := p.mapPort q (fun t => (t.setStream (p.startCursor q) false).resetNotices)
  p.answer q tag .ok (.portReset (p.ports.get q).cursor (p.ports.get q).note.view)

/-! ## The commands -/

/-- SEEK (R176). -/
def execSeek (port : Party) (tag target : Byte) (sequence : BitVec 32) (option : Byte) (s : State) :
    Host.Outcome State Fault Refusal :=
  .next (s.runPart (Part.request port tag (Part.seek port tag target sequence option)))

/-- READ_NEXT (R179). -/
def execReadNext (port : Party) (tag count : Byte) (s : State) : Host.Outcome State Fault Refusal :=
  .next (s.runPart (Part.request port tag (Part.readNext port tag count)))

/-- RELEASE (R180). -/
def execRelease (port : Party) (tag : Byte) (value : BitVec 32) (s : State) : Host.Outcome State Fault Refusal :=
  .next (s.runOffer (Part.request port tag (Part.release port tag value)))

/-- MARK_TIME (R181). -/
def execMarkTime (port : Party) (tag : Byte) (stated : BitVec 64) (quality : Byte) (s : State) : Host.Outcome State Fault Refusal :=
  .next (s.runOffer (Part.request port tag (Part.markTime port tag stated quality)))

/-- NOTE_BEGIN (R182). -/
def execNoteBegin (port : Party) (tag topic : Byte) (s : State) : Host.Outcome State Fault Refusal :=
  .next (s.runOffer (Part.request port tag (Part.noteBegin port tag topic)))

/-- NOTE_TEXT (R183). -/
def execNoteText (port : Party) (tag : Byte) (chars : List Byte) (s : State) : Host.Outcome State Fault Refusal :=
  .next (s.runPart (Part.request port tag (Part.noteText port tag chars)))

/-- NOTE_END (R184). -/
def execNoteEnd (port : Party) (tag : Byte) (s : State) : Host.Outcome State Fault Refusal :=
  .next (s.runOffer (Part.request port tag (Part.noteEnd port tag)))

/-- PORT_RESET (R186): taken even while a request of the port is in progress. -/
def execPortReset (port : Party) (tag : Byte) (s : State) : Host.Outcome State Fault Refusal :=
  .next (s.runOffer (fun p => (p.openTransfer port).gateStarting port tag (Part.portReset port tag)))

end Sys2Proof.Machine
end

