-- ==== Sys2Proof/Machine/Acquisition.lean ====
section
/-! DEFINITION. The sample link receiver, the frame-driven tracker events (spec 01) and their commands. -/

namespace Sys2Proof.Machine

/-! ## Bytes and frames (R2) -/

/-- The sync value (R2, spec 11.9). -/
def syncByte : Byte := 0xC3#8

/-- Bytes of a sample frame. -/
def frameLength : Nat := 10

/-- The check-failed count raised (R2). -/
def Receiver.countFailed (r : Receiver) : Receiver := { r with checkFailed := satAdd 65535 r.checkFailed 1 }

/-- The search for a sync value resumed at the byte that follows a discarded frame's sync byte (R2). -/
def searchAgain (bs : List Byte) : List Byte := (bs.drop 1).dropWhile (fun b => decide (b ≠ syncByte))

/-- The frame being assembled discarded: counted, and the search resumed inside it (R2). -/
def Receiver.discardFrame (r : Receiver) (bs : List Byte) : Receiver := { r.countFailed with assembling := searchAgain bs }

/-- The bytes held so far when a byte with a low stop bit is dropped: every frame that one of their sync values begins counts the dropped
byte among its nine, so each is discarded and counted, and the search goes on with the next byte (R2). -/
def Receiver.dropByte (r : Receiver) (held : List Byte) : Receiver :=
  { r with checkFailed := satAdd 65535 r.checkFailed (held.count syncByte), assembling := [] }

/-- The three samples of a frame. -/
def frameSamples (bs : List Byte) : Tri Sample :=
  let at_ := fun i => (bs.getD i 0#8) ++ (bs.getD (i + 1) 0#8)
  ⟨at_ 2, at_ 4, at_ 6⟩

/-- A frame index, held at 2^48 − 1 (R10). -/
def capIndex (n : Nat) : Nat := min 281474976710655 n

/-! ## Accepting frames (R3 to R6, R8) -/

/-- R4's updates at an accepted frame. -/
def Receiver.accept (r : Receiver) (seq : Byte) (samples : Tri Sample) (now : Nat) : Receiver :=
  { r with acq := .running, lastSeq := some seq, lastSamples := some samples, lastFrameTime := some now }

/-- A frame accepted with an index: the steps outstanding first, then R4's updates and the delivery. -/
def Part.acceptAt (p : Part) (index : Nat) (seq : Byte) (samples : Tri Sample) : Part :=
  let p := p.settle
  { p with receiver := p.receiver.accept seq samples p.localTime }.deliver index samples false

/-- A substitute frame delivered at the next index (R5). -/
def Part.substitute (p : Part) (samples : Tri Sample) : Part :=
  let p := p.settle
  { p with receiver := { p.receiver with substituted := satAdd 65535 p.receiver.substituted 1 } }.deliver
    (capIndex (p.receiver.frameIndex + 1)) samples true

/-- Several substitute frames delivered (R5). -/
def Part.substitutes (samples : Tri Sample) : Nat → Part → Part
  | 0, p => p
  | n + 1, p => (p.substitute samples).substitutes samples n

/-- The ACQ_GAP record of a gap, timestamped with the frame that follows it (R6, R8). -/
def Part.handGap (first count : Nat) (cause : GapCause) (p : Part) : Part :=
  p.handRecord (p.buildRec .recorder p.receiver.frameIndex (.acqGap first count cause))

/-- The gap indication at the tracker, the engine, the classifier, the RVC monitor and the aggregator (R12, R26, R46, R65, R82). -/
def Part.gapConsumers (p : Part) (first count : Nat) : Part :=
  { p with
    tracker := p.tracker.resync p.tracker.active
    engine := p.engine.discard
    classifier := p.classifier.markGap
    rvc := p.rvc.gap
    aggregator := p.aggregator.gap first count }

/-- The capture unit's gap indication with the index of the frame that follows (R108). -/
def Part.gapCaptures (p : Part) : Part := p.captureGap p.receiver.frameIndex

/-- A frame accepted after a gap of `advance − 1` frames: the receiver's state, the gap indication, the ACQ_GAP record, the delivery
(R6, R8; log entries 7, 17, DESIGN CHOICE and DEDUCED). -/
def Part.acceptAfterGap (p : Part) (advance : Nat) (cause : GapCause) (seq : Byte) (samples : Tri Sample) : Part :=
  let p := p.settle
  let first := p.receiver.frameIndex + 1
  let index := capIndex (p.receiver.frameIndex + advance)
  let p := { p with receiver := { p.receiver.accept seq samples p.localTime with frameIndex := index } }
  let p := p.gapConsumers first (advance - 1)
  let p := p.either (fun q => q.gapCaptures.handGap first (advance - 1) cause) (fun q => (q.handGap first (advance - 1) cause).gapCaptures)
  p.deliver index samples false

/-- Milliseconds since the last frame was delivered, held at 2^32 − 1 (R7, R8). -/
def Part.silence (p : Part) : Nat := min max32 (p.localTime - p.receiver.lastFrameTime.getD p.localTime)

/-- The advance of the frame index at a resumption (R8). -/
def resumeAdvance (e : Nat) : Nat := e * 256 / 25

/-- A valid frame in RUNNING, by k (R4, R5, R6). -/
def Part.runningFrame (p : Part) (seq : Byte) (samples : Tri Sample) : Part :=
  let k := (seq - p.receiver.lastSeq.getD 0#8).toNat
  if k = 0 then { p with receiver := { p.receiver with duplicates := satAdd 65535 p.receiver.duplicates 1 } }
  else if k ≤ 5 then
    let q := p.substitutes (p.receiver.lastSamples.getD (Tri.all 0#16)) (k - 1)
    q.acceptAt (capIndex (q.receiver.frameIndex + 1)) seq samples
  else p.acceptAfterGap k .jump seq samples

/-- A valid frame, by the acquisition state (R3, R4, R8). -/
def Part.validFrame (p : Part) (seq : Byte) (samples : Tri Sample) : Part :=
  match p.receiver.acq with
  | .absent => p.acceptAt 0 seq samples
  | .running => p.runningFrame seq samples
  | .lost => p.acceptAfterGap (resumeAdvance p.silence) .silence seq samples

/-- Ten bytes assembled: a valid frame, or a discarded one (R2). -/
def Part.frameComplete (p : Part) (bs : List Byte) : Part :=
  if checkHolds bs then { p with receiver := { p.receiver with assembling := [] } }.validFrame (bs.getD 1 0#8) (frameSamples bs)
  else { p with receiver := p.receiver.discardFrame bs }

/-- One byte of the line (R2). -/
def Part.receiveByte (p : Part) (b : LineByte) : Part :=
  let held := p.receiver.assembling
  if b.stopHigh then
    if held.isEmpty && decide (b.data ≠ syncByte) then p
    else if held.length + 1 < frameLength then { p with receiver := { p.receiver with assembling := held ++ [b.data] } }
    else p.frameComplete (held ++ [b.data])
  else { p with receiver := p.receiver.dropByte held }

/-- The bytes of the line; while the scan runs or SUPPLY-FAIL is handled they are discarded without checking or counting (R3, R9). -/
def Part.receive (p : Part) (line : List LineByte) : Part := if p.isStarting || p.failing then p else line.foldl Part.receiveByte p

/-! ## Silence (R7) -/

/-- Whether 8 ms have passed in RUNNING with no frame delivered (R7). -/
def Part.silenceDue (p : Part) : Bool :=
  decide (p.receiver.acq = .running) && !p.failing && !p.isStarting && decide (8 ≤ p.silence)

/-- LOST entered, ACQUISITION_LOST noticed (R7). -/
def Part.loseFrames (p : Part) : Part :=
  { p with receiver := { p.receiver with acq := .lost } }.raiseAll .acquisitionLost (.number p.receiver.frameIndex)

/-- The silence timer's expiry when it is due. -/
def Part.silenceExpiry (p : Part) : Part := if p.silenceDue then p.loseFrames else p

/-! ## The commands -/

/-- SAMPLE_FRAME (R2). -/
def execSampleFrame (line : List LineByte) (s : State) : Host.Outcome State Fault Refusal := .next (s.runPart (fun p => p.receive line))

/-- SILENCE_TIMER_EXPIRY (R7). -/
def execSilenceTimerExpiry (s : State) : Host.Outcome State Fault Refusal := .next (s.runPart Part.silenceExpiry)

/-- RESYNC_TIMEOUT (R12). -/
def execResyncTimeout (s : State) : Host.Outcome State Fault Refusal := .next (s.runDue Part.settleResync)

/-- FORCED_BOUNDARY (R13). -/
def execForcedBoundary (s : State) : Host.Outcome State Fault Refusal := .next (s.runDue Part.settleForced)

/-- FREE_RUN_BOUNDARY (R14). -/
def execFreeRunBoundary (s : State) : Host.Outcome State Fault Refusal := .next (s.runDue Part.settleFreeRun)

/-- SEAM_TIMEOUT (R17). -/
def execSeamTimeout (s : State) : Host.Outcome State Fault Refusal := .next (s.runDue Part.settleSeam)

end Sys2Proof.Machine
end

