-- ==== Sys2Proof/Machine/TimedEvents.lean ====
section
/-! DEFINITION. The commands of candidates, folds, captures, proposals and notes that frames or local time make due, and the local tick. -/

namespace Sys2Proof.Machine

/-- A pending proposal that is not consented and whose expiry has been reached (R163). -/
def Part.lapseDue (p : Part) : Option Proposal :=
  match p.profile.proposal with
  | some pr => if pr.consented = false ∧ pr.expiry ≤ p.localTime then some pr else none
  | none => none

/-- A lapse when it is due: the slot NONE, PROPOSAL_LAPSED noticed to the proposer (R163). -/
def Part.lapse (p : Part) : Part :=
  match p.lapseDue with
  | some pr =>
    { p with profile := { p.profile with proposal := none } }.raiseAt pr.proposer .proposalLapsed (.number pr.number.toNat)
  | none => p

/-- The adoption state's forced mark set: the forced adoption waits for the completion of an erase (R165). -/
def Part.markForced (p : Part) : Part :=
  { p with profile := { p.profile with deferral := p.profile.deferral.map (fun d => { d with forced := true }) } }

/-- The forced adoption at the wait limit, unless it must wait for an erase (R165). -/
def Part.limitAdoption (p : Part) : Part :=
  match p.overdue with
  | some pr => if p.waitsForErase pr then p.markForced else p.forceAdoption
  | none => p

/-- The events that local time has made due, in the model's order (R7, R163, R165, R185; log entry 8, DESIGN CHOICE). -/
def Part.timeEvents (p : Part) : Part :=
  ((((p.silenceExpiry.lapse).limitAdoption).noteExpiry .supply).noteExpiry .premises).noteExpiry .field

/-- One millisecond of local time passed. -/
def Part.tick (p : Part) : Part := { p with localTime := p.localTime + 1 }

/-- The local tick: what is due now, then one millisecond (log entry 2, DESIGN CHOICE). -/
def State.tick (s : State) : State := s.run (fun s => ((s.act Part.timeEvents).recoverDrained).act Part.tick)

/-- CANDIDATE_TIMEOUT (R63). -/
def execCandidateTimeout (s : State) : Host.Outcome State Fault Refusal := .next (s.runDue Part.settleCandidate)

/-- FOLD_QUIET_CLOSE (R72). -/
def execFoldQuietClose (t : FoldType) (s : State) : Host.Outcome State Fault Refusal := .next (s.runDue (fun p => p.settleFold t))

/-- FORCED_ADOPTION (R165). -/
def execForcedAdoption (s : State) : Host.Outcome State Fault Refusal := .next (s.runPart Part.limitAdoption)

/-- SLOT_FULL (R107). -/
def execSlotFull (slot : BitVec 2) (s : State) : Host.Outcome State Fault Refusal :=
  .next (s.runDue (fun p => p.settleFull slot.toNat))

/-- CAPTURE_EXPIRY (R111). -/
def execCaptureExpiry (slot : BitVec 2) (s : State) : Host.Outcome State Fault Refusal :=
  .next (s.runDue (fun p => p.settleExpiry slot.toNat))

/-- PROPOSAL_LAPSE (R163). -/
def execProposalLapse (s : State) : Host.Outcome State Fault Refusal := .next (s.runPart Part.lapse)

/-- NOTE_TIMEOUT (R185). -/
def execNoteTimeout (port : Party) (s : State) : Host.Outcome State Fault Refusal := .next (s.runPart (fun p => p.noteExpiry port))

end Sys2Proof.Machine
end

