-- ==== Sys2Proof/Machine/Dispatch.lean ====
section
/-! DEFINITION. One arm per command of spec/opcode_table.json. -/

namespace Sys2Proof.Machine

def exec (i : Instr) (s : State) : Host.Outcome State Fault Refusal :=
  match i with
  | .sampleFrame line => Sys2Proof.Machine.execSampleFrame line s
  | .silenceTimerExpiry => Sys2Proof.Machine.execSilenceTimerExpiry s
  | .resyncTimeout => Sys2Proof.Machine.execResyncTimeout s
  | .forcedBoundary => Sys2Proof.Machine.execForcedBoundary s
  | .freeRunBoundary => Sys2Proof.Machine.execFreeRunBoundary s
  | .seamTimeout => Sys2Proof.Machine.execSeamTimeout s
  | .candidateTimeout => Sys2Proof.Machine.execCandidateTimeout s
  | .foldQuietClose t => Sys2Proof.Machine.execFoldQuietClose t s
  | .forcedAdoption => Sys2Proof.Machine.execForcedAdoption s
  | .slotFull slot => Sys2Proof.Machine.execSlotFull slot s
  | .captureExpiry slot => Sys2Proof.Machine.execCaptureExpiry slot s
  | .recordProgramComplete agrees => Sys2Proof.Machine.execRecordProgramComplete agrees s
  | .sectorEraseComplete => Sys2Proof.Machine.execSectorEraseComplete s
  | .settingsProgramComplete agrees => Sys2Proof.Machine.execSettingsProgramComplete agrees s
  | .compactionComplete verifies => Sys2Proof.Machine.execCompactionComplete verifies s
  | .readBurstLands => Sys2Proof.Machine.execReadBurstLands s
  | .powerOn => Sys2Proof.Machine.execPowerOn s
  | .resetAsserted => Sys2Proof.Machine.execResetAsserted s
  | .resetReleased => Sys2Proof.Machine.execResetReleased s
  | .startUpScanComplete => Sys2Proof.Machine.execStartUpScanComplete s
  | .supplyFailTaken => Sys2Proof.Machine.execSupplyFailTaken s
  | .supplyFailReleased => Sys2Proof.Machine.execSupplyFailReleased s
  | .supplyRecovered => Sys2Proof.Machine.execSupplyRecovered s
  | .proposalLapse => Sys2Proof.Machine.execProposalLapse s
  | .noteTimeout port => Sys2Proof.Machine.execNoteTimeout port s
  | .requestFrameError port frame => Sys2Proof.Machine.execRequestFrameError port frame s
  | .transferEnd port clockedIn => Sys2Proof.Machine.execTransferEnd port clockedIn s
  | .identify port tag => Sys2Proof.Machine.execIdentify port tag s
  | .readLive port tag selector => Sys2Proof.Machine.execReadLive port tag selector s
  | .seek port tag target sequence option => Sys2Proof.Machine.execSeek port tag target sequence option s
  | .readNext port tag count => Sys2Proof.Machine.execReadNext port tag count s
  | .release port tag value => Sys2Proof.Machine.execRelease port tag value s
  | .captureNow port tag => Sys2Proof.Machine.execCaptureNow port tag s
  | .readCapture port tag serial offset count => Sys2Proof.Machine.execReadCapture port tag serial offset count s
  | .releaseCapture port tag serial => Sys2Proof.Machine.execReleaseCapture port tag serial s
  | .readProfile port tag selector => Sys2Proof.Machine.execReadProfile port tag selector s
  | .propose port tag expiry profile => Sys2Proof.Machine.execPropose port tag expiry profile s
  | .concur port tag number => Sys2Proof.Machine.execConcur port tag number s
  | .withdraw port tag => Sys2Proof.Machine.execWithdraw port tag s
  | .markTime port tag stated quality => Sys2Proof.Machine.execMarkTime port tag stated quality s
  | .noteBegin port tag topic => Sys2Proof.Machine.execNoteBegin port tag topic s
  | .noteText port tag chars => Sys2Proof.Machine.execNoteText port tag chars s
  | .noteEnd port tag => Sys2Proof.Machine.execNoteEnd port tag s
  | .nextNotice port tag => Sys2Proof.Machine.execNextNotice port tag s
  | .acknowledgeAttention port tag => Sys2Proof.Machine.execAcknowledgeAttention port tag s
  | .setNoticeMask port tag masks levels => Sys2Proof.Machine.execSetNoticeMask port tag masks levels s
  | .selectTally port tag tally selection => Sys2Proof.Machine.execSelectTally port tag tally selection s
  | .readTallies port tag => Sys2Proof.Machine.execReadTallies port tag s
  | .readRecurrence port tag start => Sys2Proof.Machine.execReadRecurrence port tag start s
  | .portReset port tag => Sys2Proof.Machine.execPortReset port tag s
  | .powerEnds => Sys2Proof.Machine.execPowerEnds s

end Sys2Proof.Machine
end

