-- ==== Sys2Proof/Machine/WireFormats.lean ====
section
/-! DEFINITION. The formats a party and the converter see on the wire (spec 11.9): status codes, request frames written and read, the head of a response frame, and sample frames. -/

namespace Sys2Proof.Machine

/-! ## Responses -/

/-- A status's code (spec 11.9). -/
def Status.code : Status → Nat
  | .ok => 0x00
  | .clamped => 0x01
  | .caughtUp => 0x02
  | .partialFill => 0x03
  | .linkCrc => 0x10
  | .badFrame => 0x11
  | .unknownRequest => 0x12
  | .busy => 0x13
  | .starting => 0x14
  | .supplyFailing => 0x15
  | .queueFull => 0x20
  | .notEnrolled => 0x21
  | .outOfRange => 0x22
  | .captureBusy => 0x23
  | .captureGone => 0x24
  | .noteIdle => 0x25
  | .journalFault => 0x26
  | .invalidProfile => 0x30
  | .proposalPending => 0x31
  | .staleProposal => 0x32
  | .noProposal => 0x33
  | .notProposer => 0x34
  | .adopting => 0x35

/-- A response frame with a payload: tag, status, length, payload, check value (spec 11.9). Which bytes carry a response's content
the spec does not give (log entry 12, DESIGN CHOICE), so the payload is an argument. -/
def Response.frame (r : Response) (payload : List Byte) : List Byte :=
  withCheck ([r.tag] ++ beBytes 1 r.status.code ++ beBytes 2 payload.length ++ payload)

/-! ## Requests -/

/-- A request as its frame carries it: the port whose link it came in on, its kind code, its tag and its payload (spec 11.9). -/
structure WireRequest where
  port : Party
  kind : Nat
  tag : Byte
  payload : List Byte
  deriving DecidableEq, Repr

/-- A request's frame: kind, tag, length, payload, check value (spec 11.9). -/
def WireRequest.frame (w : WireRequest) : List Byte :=
  withCheck (beBytes 1 w.kind ++ [w.tag] ++ beBytes 1 w.payload.length ++ w.payload)

end Sys2Proof.Machine

namespace Sys2Proof

open Sys2Proof.Machine

/-- The request frame fields of a command; absent for a command that is no request (spec 11.9 "Request payloads"). -/
def Instr.wire : Instr → Option WireRequest
  | .identify q tag => some ⟨q, 0x01, tag, []⟩
  | .readLive q tag selector => some ⟨q, 0x02, tag, [selector]⟩
  | .seek q tag target sequence option => some ⟨q, 0x03, tag, [target] ++ beBytes 4 sequence.toNat ++ [option]⟩
  | .readNext q tag count => some ⟨q, 0x04, tag, [count]⟩
  | .release q tag value => some ⟨q, 0x05, tag, beBytes 4 value.toNat⟩
  | .captureNow q tag => some ⟨q, 0x06, tag, []⟩
  | .readCapture q tag serial offset count => some ⟨q, 0x07, tag, beBytes 4 serial.toNat ++ beBytes 2 offset.toNat ++ [count]⟩
  | .releaseCapture q tag serial => some ⟨q, 0x08, tag, beBytes 4 serial.toNat⟩
  | .readProfile q tag selector => some ⟨q, 0x09, tag, [selector]⟩
  | .propose q tag expiry profile => some ⟨q, 0x0A, tag, beBytes 2 expiry.toNat ++ profile.encode⟩
  | .concur q tag number => some ⟨q, 0x0B, tag, [number]⟩
  | .withdraw q tag => some ⟨q, 0x0C, tag, []⟩
  | .markTime q tag stated quality => some ⟨q, 0x0D, tag, beBytes 8 stated.toNat ++ [quality]⟩
  | .noteBegin q tag topic => some ⟨q, 0x0E, tag, [topic]⟩
  | .noteText q tag chars => some ⟨q, 0x0F, tag, chars⟩
  | .noteEnd q tag => some ⟨q, 0x10, tag, []⟩
  | .nextNotice q tag => some ⟨q, 0x11, tag, []⟩
  | .acknowledgeAttention q tag => some ⟨q, 0x12, tag, []⟩
  | .setNoticeMask q tag masks levels => some ⟨q, 0x13, tag, beBytes 2 masks.toNat ++ beBytes 2 levels.toNat⟩
  | .selectTally q tag tally selection => some ⟨q, 0x14, tag, [tally, selection]⟩
  | .readTallies q tag => some ⟨q, 0x15, tag, []⟩
  | .readRecurrence q tag start => some ⟨q, 0x16, tag, [start]⟩
  | .portReset q tag => some ⟨q, 0x17, tag, []⟩
  | .sampleFrame _ => none
  | .silenceTimerExpiry => none
  | .resyncTimeout => none
  | .forcedBoundary => none
  | .freeRunBoundary => none
  | .seamTimeout => none
  | .candidateTimeout => none
  | .foldQuietClose _ => none
  | .forcedAdoption => none
  | .slotFull _ => none
  | .captureExpiry _ => none
  | .recordProgramComplete _ => none
  | .sectorEraseComplete => none
  | .settingsProgramComplete _ => none
  | .compactionComplete _ => none
  | .readBurstLands => none
  | .powerOn => none
  | .resetAsserted => none
  | .resetReleased => none
  | .startUpScanComplete => none
  | .supplyFailTaken => none
  | .supplyFailReleased => none
  | .supplyRecovered => none
  | .proposalLapse => none
  | .noteTimeout _ => none
  | .requestFrameError _ _ => none
  | .transferEnd _ _ => none
  | .powerEnds => none

/-- A run of a payload's bytes as a number. -/
def field (bs : List Byte) (offset size : Nat) : Nat := beNat ((bs.drop offset).take size)

/-- The request that a kind code, a tag and a payload of the kind's size spell at a port (spec 11.9). -/
def readRequest (q : Party) (kind : Nat) (tag : Byte) (bs : List Byte) : Option Instr :=
  match kind with
  | 0x01 => some (.identify q tag)
  | 0x02 => some (.readLive q tag (bs.getD 0 0))
  | 0x03 => some (.seek q tag (bs.getD 0 0) (BitVec.ofNat 32 (field bs 1 4)) (bs.getD 5 0))
  | 0x04 => some (.readNext q tag (bs.getD 0 0))
  | 0x05 => some (.release q tag (BitVec.ofNat 32 (field bs 0 4)))
  | 0x06 => some (.captureNow q tag)
  | 0x07 => some (.readCapture q tag (BitVec.ofNat 32 (field bs 0 4)) (BitVec.ofNat 16 (field bs 4 2)) (bs.getD 6 0))
  | 0x08 => some (.releaseCapture q tag (BitVec.ofNat 32 (field bs 0 4)))
  | 0x09 => some (.readProfile q tag (bs.getD 0 0))
  | 0x0A => some (.propose q tag (BitVec.ofNat 16 (field bs 0 2)) (Profile.decode (bs.drop 2)))
  | 0x0B => some (.concur q tag (bs.getD 0 0))
  | 0x0C => some (.withdraw q tag)
  | 0x0D => some (.markTime q tag (BitVec.ofNat 64 (field bs 0 8)) (bs.getD 8 0))
  | 0x0E => some (.noteBegin q tag (bs.getD 0 0))
  | 0x0F => some (.noteText q tag bs)
  | 0x10 => some (.noteEnd q tag)
  | 0x11 => some (.nextNotice q tag)
  | 0x12 => some (.acknowledgeAttention q tag)
  | 0x13 => some (.setNoticeMask q tag (BitVec.ofNat 16 (field bs 0 2)) (BitVec.ofNat 16 (field bs 2 2)))
  | 0x14 => some (.selectTally q tag (bs.getD 0 0) (bs.getD 1 0))
  | 0x15 => some (.readTallies q tag)
  | 0x16 => some (.readRecurrence q tag (bs.getD 0 0))
  | 0x17 => some (.portReset q tag)
  | _ => none

/-- The command that bytes clocked in at a port bring: the request they spell when they pass checks 1 to 3 of R172, the faulty frame
when they do not; absent while they are an incomplete request. -/
def commandOf (q : Party) (bs : List Byte) : Option Instr :=
  if bs.isEmpty || isIncomplete bs then none
  else match linkError bs with
    | some _ => some (.requestFrameError q bs)
    | none => readRequest q (bs.getD 0 0).toNat (bs.getD 1 0) ((bs.drop 3).take (statedLength bs))

/-! ## Sample frames -/

/-- The ten bytes of a sample frame: sync, sequence, three samples, check value (spec 11.9). -/
def sampleBytes (seq : Byte) (x : Tri Sample) : List Byte :=
  withCheck ([syncByte, seq] ++ beBytes 2 x.c1.toNat ++ beBytes 2 x.c2.toNat ++ beBytes 2 x.c3.toNat)

/-- A sample frame on the line with every stop bit high (R2). -/
def sampleLine (seq : Byte) (x : Tri Sample) : List LineByte := (sampleBytes seq x).map (fun b => ⟨b, true⟩)

end Sys2Proof
end

