-- ==== Sys2Proof/Safety.lean ====
section
/-! DEFINITION. What counts as a safe run, in the terms the statements use: no step stops, the nonvolatile array keeps its canonical form, and the bounds the spec gives the queues, the ports, the tables, the proposals and the erases hold. -/

namespace Sys2Proof

open Sys2Proof.Machine

/-- A step answers a next state. -/
def StepsOn (s : State) : Prop := ∃ t, step s = .next t

/-- The nonvolatile array has its canonical form. -/
def MemoryOk (s : State) : Prop := Memory.wf s.memory = true

/-- A state is safe when its array has the canonical form and its step goes on. -/
def Safe (s : State) : Prop := MemoryOk s ∧ StepsOn s

end Sys2Proof

namespace Sys2Proof.Machine

/-! ## A command as the statements see it -/

/-- The part as a step that delivered frames have made due finds it when it runs as its own command: a waiting note that is due has entered
PRIORITY (R122; log entries 1, 36, DESIGN CHOICE). -/
def State.entered (s : State) : Part := s.part.admitNote

/-- The part as a command finds it: a waiting note that is due has entered PRIORITY, and every step the delivered frames have made due has
been taken (log entries 1, 36, DESIGN CHOICE). -/
def State.found (s : State) : Part := s.entered.settle

/-- The part as a request that may offer a port-class record finds it: it comes before a waiting note that is still due (R122; log entry 36,
DESIGN CHOICE). -/
def State.asked (s : State) : Part := s.part.settle

/-- The state a command leaves when its own effect has made the part `p`: the arbiter, then a restart that is due at once (log entry 9, DEDUCED). -/
def State.leaves (s : State) (p : Part) : State := State.finish { s with part := p }

/-- The state such a request leaves when its own effect has made the part `p`: a note that is still due enters first (R122). -/
def State.leavesAsked (s : State) (p : Part) : State := s.leaves p.admitNote

/-- A part whose port has an answer formed, and nothing else changed (R173). -/
def Part.answered (p : Part) (q : Party) (tag : Byte) (status : Status) (body : Body) : Part :=
  { p with ports := p.ports.set q { p.ports.get q with response := some ⟨tag, status, body⟩, ready := true } }

/-- The state a request leaves when its only effect is its answer (R173). -/
def State.answers (s : State) (q : Party) (tag : Byte) (status : Status) (body : Body) : State := s.leaves (s.found.answered q tag status body)

/-- The state a request that may offer a port-class record leaves when its only effect is its answer (R122, R173). -/
def State.answersAsked (s : State) (q : Party) (tag : Byte) (status : Status) (body : Body) : State :=
  s.leavesAsked (s.asked.answered q tag status body)

/-- A port takes a request: the part is alive, the journal is not STARTING and the port has no request in progress (R172, checks 4 and 5). -/
def State.serves (s : State) (q : Party) : Prop :=
  s.alive = true ∧ s.found.isStarting = false ∧ (s.found.ports.get q).inProgress = none

/-- The requests that may offer a port-class record: Release, Mark Time, Note Begin, Note End and Port Reset (R120, R182, R186). -/
def offersRecord : Instr → Bool
  | .release _ _ _ | .markTime _ _ _ _ | .noteBegin _ _ _ | .noteEnd _ _ | .portReset _ _ => true
  | _ => false

/-- A port takes a request that may offer a port-class record (R172, checks 4 and 5). -/
def State.servesAsked (s : State) (q : Party) : Prop :=
  s.alive = true ∧ s.asked.isStarting = false ∧ (s.asked.ports.get q).inProgress = none

/-- The part as a request finds it. -/
def State.foundBy (s : State) (i : Instr) : Part := if offersRecord i then s.asked else s.found

/-- The state a request leaves when its own effect has made the part `p`. -/
def State.leavesBy (s : State) (i : Instr) (p : Part) : State := if offersRecord i then s.leavesAsked p else s.leaves p

/-! ## What an adoption leaves -/

/-! ### Events, folds and the interval closed by force -/

/-- How a forced adoption or a supply failure closes the open events: which it closes, as they then stand, the end frame their records carry,
the end of their lookups, the frame of their records, and the mark they carry (R53, R54). -/
structure ForcedEnd where
  opened : EventType → Option OpenEvent
  stop : Option Nat
  looked : Nat
  frame : Nat
  byProfile : Bool
  bySupplyFail : Bool

/-- An adoption timed by `f`: one that is forced closes every open event, its end the boundary of the last value set handled (R53). -/
def Part.endsAtAdoption (p : Part) (f : Nat) (forced : Bool) : ForcedEnd :=
  let last := (p.engine.last.map (fun vs => vs.result.boundary)).getD 0
  ⟨fun t => if forced then p.classifier.machine t else none, some last, last, f, true, false⟩

/-- SUPPLY-FAIL: every open event closed with its end absent, looked up and dated by the failure frame, *spans-gap* when the receiver was
LOST (R54, R92). -/
def Part.endsAtFailure (p : Part) : ForcedEnd :=
  ⟨fun t => (p.classifier.machine t).map (fun e =>
      { e with flags := { e.flags with spansGap := e.flags.spansGap || decide (p.receiver.acq = .lost) } }),
    none, p.receiver.frameIndex, p.receiver.frameIndex, false, true⟩

/-- The part with the closed events of the given types looked up in their order, under the profile in force (R53, R54, R92). -/
def Part.lookedUp (p : Part) (c : ForcedEnd) (types : List EventType) : Part :=
  types.foldl (fun q t => match c.opened t with
    | some e => (q.lookup t e.chans e.extreme e.halfCycles c.looked).2
    | none => q) p

/-- The EVENT record of a closed event that is not folded: its count unreduced, the mark of the closing, the answer of its lookup after the
closed events of the types `before` it (R50, R53, R54, R55). -/
def Part.closedEvent (p : Part) (c : ForcedEnd) (before : List EventType) (t : EventType) : Option Rec :=
  (c.opened t).bind (fun e =>
    let found := ((p.lookedUp c before).lookup t e.chans e.extreme e.halfCycles c.looked).1
    if e.folded then none else some (p.buildRec .recorder c.frame (.event {
      subType := t.subType, number := e.number.getD 0, start := e.start, stop := c.stop
      halfCycles := e.halfCycles, extreme := e.extreme, extremeChan := e.extremeChan, uss := none, chans := e.chans
      flags := { spansGap := e.flags.spansGap, overRange := e.flags.overRange, freeRunning := e.flags.freeRunning
                 recurrent := decide (p.profile.inForce.recurThr.toNat ≤ found.2)
                 closedByProfile := c.byProfile, closedBySupplyFail := c.bySupplyFail
                 sharedCapture := e.capture.isShared, captureRefused := decide (e.capture = .refused) }
      linked := e.linked, serial := e.capture.serial, recurrence := some found })))

/-- The closed event that the fold machine of a type is told of. -/
def ForcedEnd.ofFold (c : ForcedEnd) : FoldType → Option OpenEvent
  | .dip => c.opened .dip
  | .swell => c.opened .swell
  | .rvc => none

/-- A fold's summary with a closed event that is folded merged (R53, R71, R74). -/
def Part.closedSummary (p : Part) (c : ForcedEnd) (ft : FoldType) : Summary :=
  match c.ofFold ft with
  | some e => if e.folded then (p.folds.get ft).summary.merge ft ⟨e.start, c.stop, e.halfCycles, e.extreme, e.extremeChan, e.chans,
      ⟨e.flags.spansGap, e.flags.overRange, e.flags.freeRunning, c.byProfile, c.bySupplyFail⟩⟩ else (p.folds.get ft).summary
  | none => (p.folds.get ft).summary

/-- The BURST record of a fold: that of an OPEN fold with a folded count of at least 1 (R73, R74, R75). -/
def Part.closedBurst (p : Part) (c : ForcedEnd) (closure : FoldClosure) (ft : FoldType) : Option Rec :=
  if (p.folds.get ft).isOpen = true ∧ 1 ≤ (p.closedSummary c ft).count
    then some (p.buildRec .recorder c.frame (.burst ⟨ft, (p.folds.get ft).burst.getD 0, p.closedSummary c ft, closure⟩)) else none

/-- The EVENT records of the closed events in the order interruption, dip, swell, then the BURST records in the order dip, swell, RVC (R53,
R54, R73, R74). -/
def Part.closingRecords (p : Part) (c : ForcedEnd) (closure : FoldClosure) : List Rec :=
  [p.closedEvent c [] .interruption, p.closedEvent c [.interruption] .dip, p.closedEvent c [.interruption, .dip] .swell,
    p.closedBurst c closure .dip, p.closedBurst c closure .swell, p.closedBurst c closure .rvc].filterMap id

/-- A recurrence table after the ageing of a close at a frame (R96). -/
def Recurrence.agedBy (r : Recurrence) (age close : Nat) : Recurrence :=
  let tooOld : RecurEntry → Bool := fun e => decide (e.lastSeen.frame + age < close)
  { entries := r.entries.map (fun x => x.filter (fun e => !tooOld e))
    revision := if r.entries.any (fun x => x.any tooOld) then (r.revision + 1) % 4294967296 else r.revision }

/-- An INTERVAL record that a part hands over leaves BULK and the withheld-interval count so (R123). -/
def Part.bulkAfter (p : Part) (r : Rec) (t : Commit) : Prop :=
  (p.commit.bulk.length < 8 → p.journal.state ≠ .blocked → p.journal.state ≠ .faulted →
    t.bulk = p.commit.bulk ++ [r] ∧ t.withheld = 0) ∧
  (8 ≤ p.commit.bulk.length ∨ p.journal.state = .blocked ∨ p.journal.state = .faulted →
    t.bulk = p.commit.bulk ∧ t.withheld = min 4294967295 (p.commit.withheld + 1))

/-! ### The adoption -/

/-- `t` is the part `p` after the adoption of the pending proposal `pr`, timed by frame `f`, forced or not: the profile in force with the
next number and the slot NONE; the tracker in RESYNC on the new reference; the engine discarded under the new levels; events closed and
flags cleared when forced, the flags of channels that stay in use kept otherwise; the monitor in STEADY_WAIT with its windows emptied and
the folds CLOSED; the old interval closed *short*, its record in BULK or counted, and a *short* one opened at `f + 1` on the new grid; the
closed events looked up, the table aged under the old recurrence age and cleared when a signature field changes, else kept so; the EVENT
records of the closed events in the order interruption, dip, swell, then the BURST records in the order dip, swell, RVC handed on, and after
them the PROFILE record, which waits for its settings entry unless the journal is FAULTED; the marks by the new enrolment; the settings
entries added; the tail evaluated under the new profile, in the journal state the adoption found; PROFILE_ADOPTED noticed; all else as it
was (R29, R52, R53, R64, R73, R85, R87, R96, R97, R123, R126, R137, R140, R145, R166, R167, R168). The MODEL's readings and choices in it:
the fields the monitor holds outside CANDIDATE (log entry 29), the first start, extreme and channel of an empty fold summary (log entry 5),
that the interval's record comes before the ageing and the evaluation (log entry 8), and that no erase called for under the old marks or
retention age stands (log entry 43). -/
def Part.adoptedAs (p : Part) (pr : Proposal) (f : Nat) (forced : Bool) (t : Part) : Prop :=
  let old := p.profile.inForce
  let new := pr.contents
  t.profile = { p.profile with
    inForce := new, proposal := none, deferral := none
    number := if 4294967295 ≤ p.profile.number then 1 else p.profile.number + 1 } ∧
  t.tracker = { p.tracker with
    mode := .resync, active := new.refChan, openHalf := none, framesWaited := 0, arm := Tri.all .none
    crossed := ChanSet.empty, lastCrossed := ChanSet.empty, lengthRun := 0, spellCount := 0, refRun := 0, ret := .none } ∧
  t.engine = { p.engine with
    openSum := Tri.all 0, openClip := Tri.all 0, openCount := 0, prevValid := Tri.all false, levels := levelsOf new } ∧
  (∀ c, t.classifier.flags.get c =
    if forced = false ∧ old.inUse.get c = true ∧ new.inUse.get c = true then p.classifier.flags.get c else ⟨false, false, false⟩) ∧
  t.classifier = { flags := t.classifier.flags, dip := if forced then none else p.classifier.dip
                   swell := if forced then none else p.classifier.swell
                   interruption := if forced then none else p.classifier.interruption, nextEvent := p.classifier.nextEvent } ∧
  t.rvc = resetRvc ∧ (∀ ft, t.folds.get ft = resetFold) ∧
  t.aggregator = {
    index := (f + 1) / (new.intervalLen.toNat * 10240), start := f + 1
    stop := ((f + 1) / (new.intervalLen.toNat * 10240) + 1) * (new.intervalLen.toNat * 10240), halfCycles := 0
    sumS := Tri.all 0, sumN := Tri.all 0, low := Tri.all none, high := Tri.all none, lockedH := 0, lockedN := 0
    flags := ⟨false, p.aggregator.lastMissing.any (fun m => decide (f + 1 ≤ m)), false, false, true⟩
    lastMissing := p.aggregator.lastMissing } ∧
  p.bulkAfter (p.buildRec .recorder f (.interval (Aggregator.record
    { p.aggregator with flags := { p.aggregator.flags with short := true } } old p.commit.withheld))) t.commit ∧
  t.commit.credit = (if old.commitWeight = new.commitWeight then p.commit.credit else 0) ∧ t.commit.inHand = p.commit.inHand ∧
  (∀ handed : Part, handed = (p.closingRecords (p.endsAtAdoption f forced) .profile ++
        (if p.journal.state = .faulted then [p.buildRec .recorder f
          (.profile t.profile.number (some pr.proposer) pr.agreeing forced false new)] else [])).foldl Part.handRecord p →
    t.commit.priority = handed.commit.priority ∧ t.commit.overflow = handed.commit.overflow) ∧
  (∀ aged : Recurrence, aged = Recurrence.agedBy (p.lookedUp (p.endsAtAdoption f forced) [.interruption, .dip, .swell]).recurrence
      (old.recurAge.toNat * 36864000) f →
    t.recurrence = if old.udecl ≠ new.udecl ∨ old.dipThr ≠ new.dipThr ∨ old.swellThr ≠ new.swellThr ∨ old.intrThr ≠ new.intrThr ∨
        old.hyst ≠ new.hyst ∨ old.rvcThr ≠ new.rvcThr ∨ old.recurThr ≠ new.recurThr ∨ old.channels ≠ new.channels
      then ⟨List.replicate p.recurrence.entries.length none, (aged.revision + 1) % 4294967296⟩ else aged) ∧
  (∀ q, t.journal.mark q =
    if new.isEnrolled q = true ∧ old.isEnrolled q = false ∧ q ≠ .field then some p.journal.oldest
    else if new.isEnrolled q = false ∧ old.isEnrolled q = true then none else p.journal.mark q) ∧
  (p.journal.state ≠ .faulted → t.journal.pendingSettings = p.journal.pendingSettings ++
    [⟨.profile t.profile.number new, false, false, some (p.buildRec .recorder f
      (.profile t.profile.number (some pr.proposer) pr.agreeing forced false new))⟩] ++
    (if new.isEnrolled .supply = true ∧ old.isEnrolled .supply = false
      then [⟨.mark .supply p.journal.oldest, false, false, none⟩] else []) ++
    (if new.isEnrolled .premises = true ∧ old.isEnrolled .premises = false
      then [⟨.mark .premises p.journal.oldest, false, false, none⟩] else [])) ∧
  t.journal = { p.journal with
    state := t.journal.state, markSupply := t.journal.markSupply, markPremises := t.journal.markPremises
    pendingSettings := t.journal.pendingSettings } ∧
  t.journal.state = (Part.evaluateTail { t with journal := { t.journal with state := p.journal.state } }).journal.state ∧
  (∀ q, (t.ports.get q) = { p.ports.get q with
      notices := (t.ports.get q).notices, attention := (t.ports.get q).attention } ∧
    ∃ n ∈ (t.ports.get q).notices, n.kind = .profileAdopted ∧ n.detail = .number t.profile.number) ∧
  t = { p with
    profile := t.profile, tracker := t.tracker, engine := t.engine, classifier := t.classifier, rvc := t.rvc, folds := t.folds
    aggregator := t.aggregator, commit := t.commit, recurrence := t.recurrence, journal := t.journal, ports := t.ports }

/-! ## What a supply failure leaves -/

/-- `t` is the part `p` after the failure sequence: the failure frame fixed and no frame taken; every open event closed, looked up and told to
its fold machine, the folds otherwise as they were and the candidate gone from the RVC fold; every FILLING chain HELD from the failure frame,
truncated when the receiver was LOST; the open interval *short*, *gap* too when LOST, its record in BULK or counted, the table aged at the
failure frame, the tail evaluated; no proposal; and to PRIORITY in this order the EVENT records (end absent, *closed-by-supply-fail*), the
BURST records (closure SUPPLY_FAIL), the CAPTURE records in ascending serial and the SUPPLY_FAIL record with the events closed and the
occupancies before; all else as it was (R9, R54, R64, R74, R89, R92, R96, R109, R114, R140, R170, R195). The MODEL's readings and choices in
it: the monitor left as it is (log entry 29), an empty fold summary (log entry 5), the remaining count of a chain that is not truncated
(log entry 37), and that the interval's record comes before the ageing and the evaluation (log entry 8). -/
def Part.failedAs (p t : Part) : Prop :=
  ∀ (b : Part) (c : ForcedEnd) (now : Nat) (lost : Bool) (serials : List Nat) (ended : Capture),
    now = p.receiver.frameIndex → lost = decide (p.receiver.acq = .lost) → c = p.endsAtFailure →
    b = { p with failing := true, receiver := { p.receiver with failureFrame := some now } } →
    serials.Pairwise (fun m n => m < n) → (∀ n, n ∈ serials ↔ ∃ x, some x ∈ p.capture.slots ∧ x.held = false ∧ x.serial = n) →
    ended = { p.capture with slots := p.capture.slots.map (fun y => y.map (fun x => if x.serial ∈ serials
      then { x with
        held := true, truncated := x.truncated || lost, remaining := if lost then 0 else x.remaining, holdStart := now
        holdLength := p.profile.inForce.capHold.toNat * 36864000 }
      else x)) } →
    t.classifier = { p.classifier with dip := none, swell := none, interruption := none } ∧
    (∀ ft, t.folds.get ft = { p.folds.get ft with
      sinceEnd := if (c.ofFold ft).isSome then some 0 else (p.folds.get ft).sinceEnd
      startDistance := if ft = .rvc ∧ p.rvc.mode = .candidate then none else (p.folds.get ft).startDistance
      summary := p.closedSummary c ft }) ∧
    t.recurrence = Recurrence.agedBy (p.lookedUp c [.interruption, .dip, .swell]).recurrence
      (p.profile.inForce.recurAge.toNat * 36864000) now ∧
    t.capture = ended ∧
    t.aggregator = { p.aggregator with flags := { p.aggregator.flags with short := true, gap := p.aggregator.flags.gap || lost } } ∧
    p.bulkAfter (b.buildRec .recorder now (.interval (t.aggregator.record p.profile.inForce p.commit.withheld))) t.commit ∧
    t.commit.credit = p.commit.credit ∧ t.commit.inHand = p.commit.inHand ∧
    (∀ handed : Part, handed = (b.closingRecords c .supplyFail ++
          serials.filterMap (fun n => (ended.record n).map (fun r => b.buildRec .recorder now (.capture r))) ++
          [b.buildRec .recorder now (.supplyFail
            ([p.classifier.interruption, p.classifier.dip, p.classifier.swell].filterMap (fun e => e.bind OpenEvent.number))
            p.commit.priority.length (p.commit.priority.countP (fun r => r.payload.isPortClass)) p.commit.bulk.length)]).foldl
        Part.handRecord b →
      t.commit.priority = handed.commit.priority ∧ t.commit.overflow = handed.commit.overflow) ∧
    t.profile = { p.profile with proposal := none, deferral := none } ∧
    t.journal = { p.journal with state := t.journal.state } ∧
    t.journal.state = (Part.evaluateTail { t with journal := p.journal }).journal.state ∧
    (∀ q, t.ports.get q = { p.ports.get q with notices := (t.ports.get q).notices, attention := (t.ports.get q).attention }) ∧
    t = { b with
      classifier := t.classifier, folds := t.folds, recurrence := t.recurrence, capture := t.capture, aggregator := t.aggregator
      commit := t.commit, profile := t.profile, journal := t.journal, ports := t.ports }

/-! ## What the journal's fault leaves -/

/-- `t` is the part `p` after the journal has become FAULTED with a cause: the record in hand, the settings work and a compaction discarded,
the array IDLE; each Release that waited for its MARK entry answered JOURNAL_FAULT with its mark as it was, unless its transfer has ended;
each PROFILE record that waited for its entry handed over, which FAULTED withholds; JOURNAL_BLOCKED noticed with cause FAULTED; then a forced
adoption past its wait limit taken; all else as it was (R117, R133, R137, R144, R148, R165, R166, R180, R187). The MODEL's readings and
choices in it: both places of the answer carry the mark, log entry 30; the mark of a party that was dropped is a free value, log entry 18;
and those of the adoption, as at `adoptedAs` (log entries 5, 8, 29 and 43). -/
def Part.faultedAs (p : Part) (cause : FaultCause) (t : Part) : Prop :=
  ∃ u : Part,
    u.journal = { p.journal with state := .faulted, faultCause := some cause, pendingSettings := [], compaction := none } ∧
    u.array = { p.array with op := none, choice := none, chosenRelease := none } ∧
    (∀ handed : Part, handed = (p.journal.pendingSettings.filterMap PendingSetting.record).foldl Part.handRecord
        { p with journal := { p.journal with state := .faulted } } →
      u.commit = { p.commit with inHand := none, priority := handed.commit.priority, overflow := handed.commit.overflow }) ∧
    (∀ (q : Party) (waits : Bool) (mark : Nat),
      waits = p.journal.pendingSettings.any (fun e => e.answers && isMarkOf q e.setting) →
      mark = (p.journal.mark q).getD (Config.droppedMark p.freeCount) →
      u.ports.get q = { p.ports.get q with
        inProgress := if waits then none else (p.ports.get q).inProgress
        ready := if waits && (p.ports.get q).inProgress.isSome then true else (p.ports.get q).ready
        response := match (p.ports.get q).inProgress with
          | some r => if waits && !r.abandoned then some ⟨r.tag, .journalFault, .release mark mark⟩ else (p.ports.get q).response
          | none => (p.ports.get q).response
        notices := (u.ports.get q).notices, attention := (u.ports.get q).attention } ∧
      ∃ n ∈ (u.ports.get q).notices, n.kind = .journalBlocked ∧ n.detail = .faulted) ∧
    u = { p with journal := u.journal, array := u.array, commit := u.commit, ports := u.ports } ∧
    (p.profile.proposal = none ∨ (∀ d, p.profile.deferral = some d → p.localTime < d.start + 60000) → t = u) ∧
    (∀ d pr, p.profile.deferral = some d → p.profile.proposal = some pr → d.start + 60000 ≤ p.localTime →
      u.adoptedAs pr u.nowFrame true t)

/-! ## What a verified settings entry brings -/

/-- The part once what waited for a verified entry has been carried out: a PROFILE record handed over; a mark in force as the larger, its held
Release answered with the mark it kept and the mark now in force, and the tail evaluated when a Release brought the entry (R140, R144, R149,
R166, R180; the previous mark is log entry 44's; of a party that was dropped, the mark and the evaluation are log entry 18's, the MODEL's
choices). -/
def Part.brought (b : Part) (x : PendingSetting) : Part :=
  match x.setting with
  | .profile _ _ | .epoch _ _ =>
    match x.record with
    | some r => b.handRecord r
    | none => b
  | .mark q v =>
    let now := match b.journal.mark q with
      | some old => max v old
      | none => Config.droppedMark b.freeCount
    let c : Part := { b with
      journal := if (b.journal.mark q).isSome then b.journal.setMark q (some now) else b.journal
      ports := if x.answers then b.ports.set q (match (b.ports.get q).inProgress with
          | some r => { b.ports.get q with
              inProgress := none, ready := true
              response := if r.abandoned then (b.ports.get q).response else some ⟨r.tag, .ok, .release (match r.held with
                | .release n => n
                | .readNext _ _ => 0) now⟩ }
          | none => b.ports.get q)
        else b.ports }
    if x.release then c.evaluateTail else c

/-! ## Bounds that every step keeps -/

/-- The queues: at most 24 PRIORITY records of which at most 16 of port class, at most 8 BULK records, and no port-class record waiting
for a settings entry (R117, R120, R123, R166). -/
def Part.queuesBounded (p : Part) : Prop :=
  p.commit.priority.length ≤ 24 ∧ p.commit.portClass ≤ 16 ∧ p.commit.bulk.length ≤ 8 ∧
  ∀ e ∈ p.journal.pendingSettings, ∀ r, e.record = some r → r.payload.isPortClass = false

/-- The number of characters a note holds. -/
def Note.held : Note → Nat
  | .idle => 0
  | .assembling c _ => c.text.length
  | .awaiting c _ => c.text.length

/-- A port: at most 8 records buffered, at most 4 while a burst stands or is in flight, each kind pending at most once with a count of
1..65,535, at most 96 characters in a note (R177, R178, R183, R188). -/
def Port.bounded (t : Port) : Prop :=
  t.buffer.length ≤ 8 ∧ (t.burst ≠ .absent → t.buffer.length ≤ 4) ∧ (t.notices.map Notice.kind).Nodup ∧
  (∀ n ∈ t.notices, 1 ≤ n.count ∧ n.count ≤ 65535) ∧ t.note.held ≤ 96

/-- Every port is bounded. -/
def Part.portsBounded (p : Part) : Prop := ∀ q, (p.ports.get q).bounded

/-- The proposal slot: DEFERRED exactly while a consented proposal is pending; the proposer agrees; consent was reached under the profile
in force; the contents pass the checks; nothing is pending while the journal is STARTING (R156, R158, R159, R162). -/
def Part.consentSound (p : Part) : Prop :=
  (p.profile.deferral.isSome = true ↔ ∃ pr, p.profile.proposal = some pr ∧ pr.consented = true) ∧
  (∀ pr, p.profile.proposal = some pr → pr.agreeing.get pr.proposer = true ∧ pr.contents.valid = true ∧
    (pr.consented = true → consents p.profile.inForce pr.agreeing = true)) ∧
  (p.isStarting = true → p.profile.proposal = none)

/-- The tables: at most 2,048 ring frames, four slots, 64 entries no two of which share a signature, each with a count of at least 1,
128 sectors (R90, R101, R131). -/
def Part.tablesSound (p : Part) : Prop :=
  p.capture.ring.length ≤ 2048 ∧ p.capture.slots.length = 4 ∧ p.journal.sectors.length = 128 ∧
  p.recurrence.entries.length = 64 ∧ (∀ e, some e ∈ p.recurrence.entries → 1 ≤ e.count) ∧
  ∀ (i j : Nat) (a b : RecurEntry), p.recurrence.entries[i]? = some (some a) → p.recurrence.entries[j]? = some (some b) →
    a.signature = b.signature → i = j

/-- The frame index that dates the part: below its limit, 0 before any frame, fixed as the failure frame while SUPPLY-FAIL is handled
(R3, R9, R10). -/
def Receiver.dated (r : Receiver) (failing : Bool) : Prop :=
  r.frameIndex ≤ 281474976710655 ∧ (r.acq = .absent → r.frameIndex = 0) ∧
  r.failureFrame = if failing = true then some r.frameIndex else none

/-- A called-for erase may still be made: the journal ERASING has no spare and a reclaimable tail, and the sector being erased is the
tail (R140, R141). -/
def Part.eraseSafe (p : Part) : Prop :=
  p.receiver.dated p.failing ∧ p.journal.sectors.length = 128 ∧ p.journal.openSector < 128 ∧
  (p.isErasing = true → p.journal.spare = false ∧ p.reclaimable = true) ∧
  ∀ n, p.array.op = some (.erase n) → p.isErasing = true ∧ n = p.journal.tail

end Sys2Proof.Machine
end

