-- ==== Sys2Proof/WellFormed.lean ====
section
/-! DEFINITION. Which commands are well formed: the checks on operands whose type is wider than what the rule admits. -/

namespace Sys2Proof

open Sys2Proof.Machine

/-- A sample frame is ten bytes on the line (spec 01, section 1.1). -/
def lineOk (line : List LineByte) : Bool := decide (line.length = 10)

/-- Note Text carries 0 to 32 characters (R183). -/
def charsOk (chars : List Byte) : Bool := decide (chars.length ≤ 32)

/-- REQUEST_FRAME_ERROR carries bytes that bring a link error (R172). -/
def frameOk (frame : List Byte) : Bool := (linkError frame).isSome

/-- TRANSFER_END carries no bytes or an incomplete request (R172). -/
def clockedOk (clockedIn : List Byte) : Bool := clockedIn.isEmpty || isIncomplete clockedIn

/-- COMPACTION_COMPLETE carries at most one outcome for each copy and retry (R150). -/
def verifiesOk (verifies : List Bool) : Bool := decide (verifies.length ≤ 16)

/-- Whether a command's operands are what its rule admits. -/
def Instr.wellFormed : Instr → Bool
  | .sampleFrame line => lineOk line
  | .noteText _ _ chars => charsOk chars
  | .requestFrameError _ frame => frameOk frame
  | .transferEnd _ clockedIn => clockedOk clockedIn
  | .compactionComplete verifies => verifiesOk verifies
  | .silenceTimerExpiry => true
  | .resyncTimeout => true
  | .forcedBoundary => true
  | .freeRunBoundary => true
  | .seamTimeout => true
  | .candidateTimeout => true
  | .foldQuietClose _ => true
  | .forcedAdoption => true
  | .slotFull _ => true
  | .captureExpiry _ => true
  | .recordProgramComplete _ => true
  | .sectorEraseComplete => true
  | .settingsProgramComplete _ => true
  | .readBurstLands => true
  | .powerOn => true
  | .resetAsserted => true
  | .resetReleased => true
  | .startUpScanComplete => true
  | .supplyFailTaken => true
  | .supplyFailReleased => true
  | .supplyRecovered => true
  | .proposalLapse => true
  | .noteTimeout _ => true
  | .identify _ _ => true
  | .readLive _ _ _ => true
  | .seek _ _ _ _ _ => true
  | .readNext _ _ _ => true
  | .release _ _ _ => true
  | .captureNow _ _ => true
  | .readCapture _ _ _ _ _ => true
  | .releaseCapture _ _ _ => true
  | .readProfile _ _ _ => true
  | .propose _ _ _ _ => true
  | .concur _ _ _ => true
  | .withdraw _ _ => true
  | .markTime _ _ _ _ => true
  | .noteBegin _ _ _ => true
  | .noteEnd _ _ => true
  | .nextNotice _ _ => true
  | .acknowledgeAttention _ _ => true
  | .setNoticeMask _ _ _ _ => true
  | .selectTally _ _ _ _ => true
  | .readTallies _ _ => true
  | .readRecurrence _ _ _ => true
  | .portReset _ _ => true
  | .powerEnds => true

end Sys2Proof
end

