-- ==== Sys2Proof/Certificates/Slice0/Obligations.lean ====
section
/-! DEFINITION. The statements for the provers. Throughout, `s.found` is the part as a command finds it, after a waiting note that is due has entered and the steps that delivered frames have made due are taken (log entries 1, 36); `s.entered` the part as such a step finds it, `s.asked` as a request that may offer a port-class record does; and `s.leaves p` is the state left when the command's own effect has made the part `p`: the arbiter acts and a restart due at once follows (log entry 9). A conclusion `exec c s = .next (s.leaves { s.found with ... })` therefore gives every field of the part: those named take the value given, all others stay. -/

open Sys2Proof Sys2Proof.Machine

/-! ## The machine -/

/-- The front command of the queue runs on the queue's rest. -/
def Obligations.StepRunsTheFrontCommand : Prop :=
  ∀ (c : Instr) (rest : List Instr) (s : State), step (s.withPending (c :: rest)) = exec c (s.withPending rest)

/-- On an empty queue one local millisecond passes and the array, the pins and the queue stay; a part without power or held in reset
idles. MODEL's choice: log entries 2 and 27. -/
def Obligations.AnEmptyQueuePassesOneMillisecond : Prop :=
  (∀ s : State, s.alive = true → s.recovering = false → ∃ t, step (s.withPending []) = .next t ∧
    t.part.localTime = s.part.localTime + 1 ∧ t.memory = s.memory ∧ t.pins = s.pins ∧ t.pending = []) ∧
  ∀ s : State, s.alive = false → step (s.withPending []) = .next (s.withPending [])

/-- A part without power, or with RESET_N low, answers no command and changes nothing but its pins (R198; log entry 27). -/
def Obligations.NothingRunsWithoutPowerOrInReset : Prop :=
  ∀ (c : Instr) (s : State), s.alive = false →
    (c ≠ .powerOn → c ≠ .resetAsserted → c ≠ .resetReleased → c ≠ .supplyFailTaken → c ≠ .supplyFailReleased → c ≠ .powerEnds →
      exec c s = .next s) ∧
    exec .resetAsserted s = .next { s with pins := { s.pins with resetHigh := false } } ∧
    exec .supplyFailTaken s = .next { s with pins := { s.pins with supplyFail := true } } ∧
    exec .supplyFailReleased s = .next { s with pins := { s.pins with supplyFail := false } }

/-- The state after reset meets every bound that the invariants keep. -/
def Obligations.ResetMeetsEveryBound : Prop :=
  MemoryOk State.reset ∧ State.reset.part.queuesBounded ∧ State.reset.part.portsBounded ∧ State.reset.part.consentSound ∧
  State.reset.part.tablesSound ∧ State.reset.part.eraseSafe

/-- Every step keeps the nonvolatile array in its canonical form. -/
def Obligations.EveryStepKeepsTheArrayCanonical : Prop := ∀ s t : State, MemoryOk s → step s = .next t → MemoryOk t

/-- Every step keeps the queues within their bounds: PRIORITY 24, port class 16, BULK 8 (R117, R120, R123). -/
def Obligations.EveryStepKeepsTheQueueBounds : Prop :=
  ∀ s t : State, s.part.queuesBounded → step s = .next t → t.part.queuesBounded

/-- Every step keeps each port within its bounds: buffer, notices, note (R178, R183, R188). -/
def Obligations.EveryStepKeepsThePortBounds : Prop :=
  ∀ s t : State, s.part.portsBounded → step s = .next t → t.part.portsBounded

/-- Every step keeps the tables sound: ring, slots, sectors, and a recurrence table without two equal signatures (R90, R101). -/
def Obligations.EveryStepKeepsTheTablesSound : Prop :=
  ∀ s t : State, s.part.tablesSound → step s = .next t → t.part.tablesSound

/-- Every step keeps the proposal slot sound: DEFERRED exactly while a consented proposal is pending, consented only by FIELD or by
every enrolled party, with contents that pass the checks (R158, R162). -/
def Obligations.EveryStepKeepsConsentSound : Prop :=
  ∀ s t : State, s.part.consentSound → step s = .next t → t.part.consentSound

/-- The profile in force changes, outside a restart, only to the contents of a pending proposal that was consented: its agreeing set
held FIELD or every party enrolled under the profile it replaces (R162). -/
def Obligations.TheProfileChangesOnlyByConsent : Prop :=
  ∀ s t : State, s.part.consentSound → s.part.isStarting = false → step s = .next t → t.part.isStarting = false →
    t.part.profile.inForce = s.part.profile.inForce ∨
    ∃ pr, s.part.profile.proposal = some pr ∧ pr.consented = true ∧ consents s.part.profile.inForce pr.agreeing = true ∧
      t.part.profile.inForce = pr.contents ∧ t.part.profile.number = nextNumber s.part.profile.number

/-- Every step keeps a called-for erase safe: while the journal is ERASING no spare exists and every valid record of the tail is below
the release mark of every enrolled party or has reached the retention age, and the sector being erased is the tail (R140, R141). -/
def Obligations.EveryStepKeepsAPendingEraseSafe : Prop :=
  ∀ s t : State, s.part.eraseSafe → step s = .next t → t.part.eraseSafe

/-- What ends every command. An IDLE array whose next work is a settings entry without a sequence brings FAULTED (R148); a part that waits for
its restart and is then BLOCKED or FAULTED restarts at once, the operation in progress cut off (R130, R197). The rest is said with no restart
due and settings sequences left. The writer's work in its order: a record in hand to retry, the
settings work, an erase called for, and only while WRITING with a free slot a record from the queues (R124, R141); a record chosen stays
chosen while its queue holds one. While the array is BUSY the writer's request alone changes; while IDLE the first that asks after the last
granted one in the cycle writer, SUPPLY, PREMISES, FIELD gets its operation and nothing else changes but by it (R127): a burst from the
cursor plus the buffered count (R177); the tail ERASING (R141); an entry's program, or a compaction with its copies and the MARK entries it
leaves behind (R145, R148, R150); the RELEASE that replaced a chosen one, else the oldest PRIORITY record, or the oldest BULK record, and
into an entry of PRIORITY so freed the overflow summary or, by a free value, a note that waits (R116, R119, R122; log entry 36). When this
comes and that the choice stands is log entry 9, that a replaced RELEASE is taken next is log entry 40, both the MODEL's readings; that the
cycle decides between two requests of one command is its choice, log entry 41, and so is that a compaction copies the entry that triggered
it even where no entry of its kind is current, log entry 8 (`copyOf`), and that exhausted settings sequences fault before any grant, log
entry 47. That such a restart follows the arbiter and cuts the operation off are its readings, log entries 9 and 22; those in `faultedAs` are log
entries 18 and 30 and the adoption's 5, 8, 29 and 43. -/
def Obligations.EveryCommandEndsWithTheArbitersGrant : Prop :=
  (∀ (s : State) (p : Part), p = s.part →
    (p.settingsExhausted = true ↔ p.array.op = none ∧ p.journal.state ≠ .starting ∧ p.journal.state ≠ .faulted ∧
      (p.commit.inHand = none ∨ 64 ≤ p.journal.writeSlot) ∧ p.journal.pendingSettings ≠ [] ∧ 4294967294 < p.journal.nextSettings) ∧
    (p.settingsExhausted = true → ∃ t, p.faultedAs .sequencesExhausted t ∧ s.finish = State.finish { s with part := t }) ∧
    (s.alive = true → s.recovering = true → ∀ w, w = State.finish { s with recovering := false } →
      (w.part.journal.state = .blocked ∨ w.part.journal.state = .faulted →
        s.finish = { w with memory := w.cutMemory, part := resetPart .supplyRecovered (w.part.freeCount + 1) }) ∧
      (w.part.journal.state ≠ .blocked → w.part.journal.state ≠ .faulted → s.finish = { w with recovering := true }))) ∧
  ∀ (s : State) (p f : Part), s.recovering = false → s.part.settingsExhausted = false → p = s.part → f = s.finish.part →
    s.finish = { s with part := f } ∧
    (p.journal.state = .starting → f = p) ∧
    (p.journal.state ≠ .starting → ∀ (chosen w : Option Work) (asks : Requester → Prop) (place turn : Requester → Nat),
      chosen = (if p.journal.state = .faulted then none
        else if p.commit.inHand.isSome = true ∧ p.journal.writeSlot < 64 then some .retry
        else if p.journal.pendingSettings ≠ [] then some .settings
        else if p.journal.state = .erasing then some .erase
        else if p.journal.state = .writing ∧ p.journal.writeSlot < 64 ∧ p.commit.inHand = none
          then p.commit.chooseRecord p.profile.inForce.weight
        else none) →
      w = (if p.array.op ∉ [none, some (.burst .supply), some (.burst .premises), some (.burst .field)] then none
        else if chosen = some .priority ∧ p.array.choice = some .bulk ∧ p.commit.bulk ≠ [] then some .bulk
        else if chosen = some .bulk ∧ p.array.choice = some .priority ∧ p.commit.priority ≠ [] then some .priority
        else chosen) →
      (∀ r, asks r ↔ (r = .writer ∧ w ≠ none) ∨ ∃ q, r = .port q ∧ (p.ports.get q).burst = .standing) →
      place = (fun r => match r with
        | .writer => 0
        | .port .supply => 1
        | .port .premises => 2
        | .port .field => 3) →
      (∀ r, turn r = (place r + 3 - place p.array.lastGranted) % 4) →
      (p.array.op.isSome = true → f = { p with array := { p.array with choice := w } }) ∧
      (p.array.op = none →
        ((∀ r, ¬ asks r) → f = { p with array := { p.array with choice := none } }) ∧
        ∀ r, asks r → (∀ x, asks x → turn r ≤ turn x) →
          (∀ q, r = .port q → f = { p with
            array := { p.array with op := some (.burst q), lastGranted := .port q, choice := w }
            ports := p.ports.set q { p.ports.get q with
              burst := .inFlight ((p.ports.get q).cursor + (p.ports.get q).buffer.length) false } }) ∧
          (r = .writer → ∀ a : ArrayOp → ArrayState,
            (∀ o, a o = { p.array with op := some o, lastGranted := .writer, choice := none }) →
            (w = some .retry → f = { p with array := a .recordProgram }) ∧
            (∀ e rest, w = some .settings → p.journal.pendingSettings = e :: rest →
              (p.journal.settingsSlot < 64 → f = { p with array := a .settingsProgram }) ∧
              (64 ≤ p.journal.settingsSlot →
                ∀ copyOf : (Setting → Bool) → Option Setting → Option (Setting × Bool),
                  (∀ kind current, copyOf kind current =
                    if kind e.setting = true then some (e.setting, true) else current.map (fun x => (x, false))) →
                f = { p with array := a .compaction, journal := { p.journal with
                  compaction := some ⟨[copyOf isProfile p.journal.curProfile, copyOf isEpoch p.journal.curEpoch,
                    if p.profile.inForce.isEnrolled .supply then copyOf (isMarkOf .supply) p.journal.curMarkSupply else none,
                    if p.profile.inForce.isEnrolled .premises then copyOf (isMarkOf .premises) p.journal.curMarkPremises
                      else none].filterMap id, 0⟩
                  curMarkSupply := if p.profile.inForce.isEnrolled .supply then p.journal.curMarkSupply else none
                  curMarkPremises := if p.profile.inForce.isEnrolled .premises then p.journal.curMarkPremises else none } })) ∧
            (w = some .erase → f = { p with array := a (.erase p.journal.tail), journal := { p.journal with
              sectors := p.journal.sectors.set p.journal.tail
                { p.journal.sector p.journal.tail with state := .erasing } } }) ∧
            (∀ x rest, w = some .bulk → p.commit.bulk = x :: rest → f = { p with
              array := a .recordProgram, commit := { p.commit with bulk := rest, inHand := some x, credit := 0 } }) ∧
            (∀ (before after : List Rec) (x : Rec) (taken : Commit), w = some .priority →
              p.commit.priority = before ++ x :: after →
              ((∃ q, p.array.chosenRelease = some q ∧ isReleaseOf q x = true ∧ ∀ y ∈ before, isReleaseOf q y = false) ∨
                (before = [] ∧ ∀ q, p.array.chosenRelease = some q → ∀ y ∈ p.commit.priority, isReleaseOf q y = false)) →
              taken = { p.commit with
                priority := before ++ after, inHand := some x
                credit := creditAfter p.profile.inForce.weight p.commit.credit } →
              f = { p with
                array := { a .recordProgram with chosenRelease := none }
                commit := f.commit, ports := f.ports, freeCount := f.freeCount } ∧
              (∀ q, f.ports.get q = { p.ports.get q with note := (f.ports.get q).note }) ∧
              ((∃ o, p.commit.overflow = some o ∧ f.freeCount = p.freeCount ∧ f.ports = p.ports ∧
                  f.commit = { taken with
                    priority := before ++ after ++ [p.buildRec .recorder p.nowFrame (.overflow o)], overflow := none }) ∨
                (p.commit.overflow = none ∧ f.freeCount = p.freeCount ∧ f.commit = taken ∧ f.ports = p.ports ∧
                  (16 ≤ (before ++ after).length ∨ p.journal.state = .faulted ∨ ∀ q, (p.ports.get q).waitingNote = none)) ∨
                (p.commit.overflow = none ∧ (before ++ after).length < 16 ∧ p.journal.state ≠ .faulted ∧
                  f.freeCount = p.freeCount + 1 ∧ ∃ q n, (p.ports.get q).waitingNote = some n ∧
                    ((f.commit = taken ∧ f.ports = p.ports) ∨
                      (f.commit = { taken with priority := before ++ after ++ [n] } ∧
                        ∀ y, (f.ports.get y).note = if y = q then .idle else (p.ports.get y).note))))))))

/-! ## Formats -/

/-- A well-formed request's frame reads back as that request, with every operand at every value its fields admit (R172, spec 11.9). -/
def Obligations.RequestFramesReadBackAsTheirRequests : Prop :=
  ∀ (i : Instr) (w : WireRequest), i.wire = some w → i.wellFormed = true → commandOf w.port w.frame = some i

/-- A record programmed into an erased slot of a canonical array is found there by the scan; only the slot's bytes change (R131, R134). The
ring as the scan reads it: a written slot whose check holds is a candidate, and stands when no later candidate has its sequence number;
the newest is the standing record with the highest sequence, its sector the open one; the walk backward accepts sectors wholly written,
consecutive, and ending where the one before begins; the sector table and the erases follow (R152, R153). Which of two places is later in
write order is the MODEL's reading, log entry 21 (`later`). -/
def Obligations.AProgrammedRecordIsFoundByTheScan : Prop :=
  (∀ (m : Memory) (sector slot seq : Nat) (r : Rec), Memory.wf m = true → slotErased m sector slot = true → slot < 64 →
    seq < 4294967296 → r.epoch < 65536 → r.seconds < 4294967296 → r.payload.encode.length ≤ 106 →
    readRecord (Memory.readSlot (Memory.program m sector slot (r.encode seq)) sector slot) = some ⟨seq, r.epoch, r.seconds⟩ ∧
    ∀ a, a < slotAddress sector slot ∨ slotAddress sector slot + 128 ≤ a →
      Memory.read (Memory.program m sector slot (r.encode seq)) a = Memory.read m a) ∧
  ∀ (m : Memory) (r : RingScan) (written : Nat → Nat → Bool) (candidate stands : Nat → Nat → Option Found)
    (later : Nat × Nat → Nat × Nat → Prop) (seqs : Nat → List Nat) (entry : SectorState → Nat → Sector), Memory.wf m = true →
    r = scanRing m →
    (∀ n k, written n k = true ↔ ∃ a, slotAddress n k ≤ a ∧ a < slotAddress n k + 128 ∧ Memory.read m a ≠ 0xFF#8) →
    (∀ n k f, candidate n k = some f ↔ n < 128 ∧ k < 64 ∧ written n k = true ∧ readRecord (Memory.readSlot m n k) = some f) →
    (∀ y x, later y x ↔ (y.1 = x.1 ∧ x.2 < y.2) ∨ (y.1 ≠ x.1 ∧ ((y.1 + 128 - x.1) % 128 < 64 ∨
      ((y.1 + 128 - x.1) % 128 = 64 ∧ x.1 < y.1)))) →
    (∀ n k f, stands n k = some f ↔ candidate n k = some f ∧
      ∀ n' k' f', candidate n' k' = some f' → f'.seq = f.seq → ¬ later (n', k') (n, k)) →
    (∀ n, seqs n = (List.range 64).filterMap (fun k => (stands n k).map Found.seq)) →
    (∀ st n, entry st n = ⟨st, (List.range 64).filterMap (fun k => (stands n k).map (fun f => ⟨k, f.seq, f.seconds⟩)),
      (List.range 64).filter (fun k => written n k && (stands n k).isNone)⟩) →
    (r.newest = none ↔ ∀ n k, stands n k = none) ∧
    (r.newest = none → r.openSector = 0 ∧ r.writeSlot = 0 ∧ r.accepted = [] ∧
      ∀ n, n < 128 → r.sectors[n]? = some (if n = 0 then ⟨.isOpen, [], []⟩ else ⟨.erased, [], []⟩)) ∧
    (∀ n, n ∈ r.erases ↔ n < 128 ∧ (∃ k, k < 64 ∧ written n k = true) ∧
      (r.newest = none ∨ (n ≠ r.openSector ∧ n ∉ r.accepted))) ∧
    ∀ top, r.newest = some top →
      stands top.sector top.slot = some top.found ∧ (∀ n k f, stands n k = some f → f.seq ≤ top.found.seq) ∧
      r.openSector = top.sector ∧
      (∃ k, r.writeSlot = k + 1 ∧ k < 64 ∧ written top.sector k = true ∧ ∀ l, k < l → l < 64 → written top.sector l = false) ∧
      (∀ n, n < 128 → r.sectors[n]? = some (if n = top.sector then entry .isOpen n
        else if n ∈ r.accepted then entry .full n else ⟨.erased, [], []⟩)) ∧
      ∀ (back : Nat → Nat) (joins : Nat → Prop), (∀ i, back i = (top.sector + 128 - i) % 128) →
        (∀ i, joins i ↔ (∀ k, k < 64 → written (back (i + 1)) k = true) ∧
          (∀ (j a b : Nat), (seqs (back (i + 1)))[j]? = some a → (seqs (back (i + 1)))[j + 1]? = some b → b = a + 1) ∧
          ∃ last first, (seqs (back (i + 1))).getLast? = some last ∧ (seqs (back i)).head? = some first ∧ last + 1 = first) →
        ∃ len, len ≤ 127 ∧ r.accepted = (List.range len).map (fun i => back (i + 1)) ∧ (∀ i, i < len → joins i) ∧
          (len < 127 → ¬ joins len)

/-- A settings entry reads back from its bytes, whatever follows them (R148). The settings area as the scan reads it: of each kind the valid
entry with the highest settings sequence is current, whichever sector holds it, a MARK only of a party enrolled under the current profile;
the active sector holds the highest valid sequence, its write slot follows its last written slot, and the next sequence follows the highest;
without a valid entry sector 128 is active from slot 0 (R151). -/
def Obligations.SettingsEntriesReadBack : Prop :=
  (∀ (e : Setting) (seq : Nat) (rest : List Byte), seq < 4294967296 →
    (match e with
      | .profile number _ => number < 4294967296
      | .epoch number base => number < 65536 ∧ base < 4294967296
      | .mark q m => q ≠ .field ∧ m < 4294967296) →
    readSetting (e.encode seq ++ rest) = some (seq, e)) ∧
  ∀ (m : Memory) (z : SettingsScan) (written : Nat → Nat → Prop) (valid : SettingsEntry → Prop)
    (current : Option SettingsEntry → (Setting → Prop) → Prop), Memory.wf m = true → z = scanSettings m →
    (∀ n k, written n k ↔ ∃ a, slotAddress n k ≤ a ∧ a < slotAddress n k + 128 ∧ Memory.read m a ≠ 0xFF#8) →
    (∀ e, valid e ↔ (e.sector = 128 ∨ e.sector = 129) ∧ e.slot < 64 ∧ written e.sector e.slot ∧
      readSetting (Memory.readSlot m e.sector e.slot) = some (e.seq, e.setting)) →
    (∀ x kind, current x kind ↔ (x = none ∧ ∀ e, valid e → ¬ kind e.setting) ∨
      ∃ e, x = some e ∧ valid e ∧ kind e.setting ∧ ∀ d, valid d → kind d.setting → d.seq ≤ e.seq) →
    current z.profile (fun e => ∃ number contents, e = .profile number contents) ∧
    current z.epoch (fun e => ∃ number base, e = .epoch number base) ∧
    (∀ pr, pr = (match z.profile.map SettingsEntry.setting with | some (.profile _ contents) => contents | _ => Profile.default) →
      (if pr.isEnrolled .supply then current z.markSupply (fun e => ∃ v, e = .mark .supply v) else z.markSupply = none) ∧
      (if pr.isEnrolled .premises then current z.markPremises (fun e => ∃ v, e = .mark .premises v) else z.markPremises = none)) ∧
    z.other = (if z.active = 128 then 129 else 128) ∧
    ((∀ e, ¬ valid e) → z.active = 128 ∧ z.slot = 0 ∧ z.next = 0) ∧
    ((∃ e, valid e) → ∃ top, valid top ∧ (∀ e, valid e → e.seq ≤ top.seq) ∧ z.active = top.sector ∧ z.next = top.seq + 1 ∧
      ∃ k, z.slot = k + 1 ∧ k < 64 ∧ written z.active k ∧ ∀ l, k < l → l < 64 → ¬ written z.active l)

/-! ## Values and checks -/

/-- The one-cycle value of a channel whose previous half-cycle is valid: exact root of the mean square, scaled, limited (R23, R24). -/
def Obligations.TheOneCycleValueIsExact : Prop :=
  ∀ (e : Engine) (pr : Profile) (c : Chan) (sum count : Nat), e.prevValid.get c = true →
    sum = e.prevSum.get c + e.openSum.get c → count = e.prevCount + e.openCount →
    128 ≤ count → count ≤ 256 → sum ≤ count * 2 ^ 30 →
    ∃ root, root * root ≤ sum / count ∧ sum / count < (root + 1) * (root + 1) ∧ root ≤ 32768 ∧
      (root = 32768 → sum = count * 2 ^ 30) ∧ root * root * count ≤ sum ∧ sum < (root + 1) * (root + 1) * count ∧
      (e.entry pr c).u = some (min 65535 ((root * pr.gain c + 2048) / 4096)) ∧
      ((e.entry pr c).overRange = true ↔
        65535 < (root * pr.gain c + 2048) / 4096 ∨ e.openClip.get c ≠ 0 ∨ e.prevClip.get c ≠ 0) ∧
      ∀ vs, (e.close vs).prevClip.get c = e.openClip.get c

/-- The level set: floor(Udecl × p / 1,000) for each permille figure, and how the levels of a valid profile lie (R31). -/
def Obligations.TheLevelsFollowTheProfile : Prop :=
  ∀ p : Profile, p.valid = true →
    levelsOf p = {
      dipStart := p.udecl.toNat * p.dipThr.toNat / 1000
      dipEnd := p.udecl.toNat * (p.dipThr.toNat + p.hyst.toNat) / 1000
      swellStart := p.udecl.toNat * p.swellThr.toNat / 1000
      swellEnd := p.udecl.toNat * (p.swellThr.toNat - p.hyst.toNat) / 1000
      intrStart := p.udecl.toNat * p.intrThr.toNat / 1000
      intrEnd := p.udecl.toNat * (p.intrThr.toNat + p.hyst.toNat) / 1000
      rvcBand := p.udecl.toNat * p.rvcThr.toNat / 1000 } ∧
    p.udecl.toNat * p.swellThr.toNat ≤ 90000000 ∧
    (p.intrThr.toNat + p.hyst.toNat < p.dipThr.toNat ∧ p.dipThr.toNat + p.hyst.toNat < 1000 ∧
      1000 < p.swellThr.toNat - p.hyst.toNat ∧ 0 < p.hyst.toNat) ∧
    ((levelsOf p).intrStart ≤ (levelsOf p).intrEnd ∧ (levelsOf p).intrEnd ≤ (levelsOf p).dipStart ∧
      (levelsOf p).dipStart ≤ (levelsOf p).dipEnd ∧ (levelsOf p).dipEnd ≤ p.udecl.toNat ∧
      p.udecl.toNat ≤ (levelsOf p).swellEnd ∧ (levelsOf p).swellEnd ≤ (levelsOf p).swellStart) ∧
    (p.rvcThr.toNat < 1000 - p.dipThr.toNat ∧ p.rvcThr.toNat < p.swellThr.toNat - 1000) ∧
    (∀ start stop : Nat, (start, stop) = ((levelsOf p).dipStart, (levelsOf p).dipEnd) ∨
        (start, stop) = ((levelsOf p).swellEnd, (levelsOf p).swellStart) ∨
        (start, stop) = ((levelsOf p).intrStart, (levelsOf p).intrEnd) →
      stop = start + p.udecl.toNat * p.hyst.toNat / 1000 ∨ stop = start + p.udecl.toNat * p.hyst.toNat / 1000 + 1)

/-- A channel's three flags after a value, and what they keep under the level set of a valid profile: dip and swell never together, the
interruption flag only with the dip flag (R35); without a value they stay (R36). -/
def Obligations.FlagsFollowTheLevels : Prop :=
  ∀ (pr : Profile) (vs : ValueSet) (flags : Tri ChanFlags) (c : Chan), pr.valid = true →
    (vs.value c = none → flagsAfter (levelsOf pr) vs flags c = flags.get c) ∧
    ∀ u, vs.value c = some u →
      (flagsAfter (levelsOf pr) vs flags c).dip =
        (if (flags.get c).dip = true then decide (u < (levelsOf pr).dipEnd) else decide (u < (levelsOf pr).dipStart)) ∧
      (flagsAfter (levelsOf pr) vs flags c).swell =
        (if (flags.get c).swell = true then decide ((levelsOf pr).swellEnd < u) else decide ((levelsOf pr).swellStart < u)) ∧
      (flagsAfter (levelsOf pr) vs flags c).intr =
        (if (flags.get c).intr = true then decide (u < (levelsOf pr).intrEnd) else decide (u < (levelsOf pr).intrStart)) ∧
      (((flags.get c).dip && (flags.get c).swell) = false →
        ((flagsAfter (levelsOf pr) vs flags c).dip && (flagsAfter (levelsOf pr) vs flags c).swell) = false) ∧
      (((flags.get c).intr = true → (flags.get c).dip = true) →
        (flagsAfter (levelsOf pr) vs flags c).intr = true → (flagsAfter (levelsOf pr) vs flags c).dip = true)

/-- A half-cycle whose boundary lies below the open interval's end frame is added whole to it; one at or past it closes it, its INTERVAL
record handed to BULK or dropped and counted, and is added to the interval of its own grid position, marked *gap* when it begins at or
below the last missing frame (R79, R80, R81, R82, R123). The record holds a block for each in-use channel with a minimum, its interval value
the exact root scaled and limited, the frequency to the nearest millihertz with an exact half rounding up, within 40,000..80,000 for
half-cycles of 64 to 128 frames and absent without a locked one, and the withheld count when it is not zero (R83, R84, R86). An interval
close ages the recurrence table and evaluates the tail (R87, R96). That admission comes first, then the ageing, then the evaluation, is the
MODEL's choice, log entry 8; whether the close comes before the classifier or after the RVC monitor is left free, log entry 7 (`first`). -/
def Obligations.IntervalsAreFilledClosedAndRecorded : Prop :=
  (∀ (p q : Part) (vs : ValueSet) (first : Bool) (b n k len : Nat) (opened : Aggregator), (∀ c, (vs.entries.get c).isSome = vs.inUse.get c) →
    b = vs.result.boundary → n = vs.result.length → q = Part.measure vs first p →
    len = p.profile.inForce.intervalLen.toNat * 10240 → k = b / len →
    opened = (if b < p.aggregator.stop then p.aggregator else {
      index := k, start := k * len, stop := (k + 1) * len, halfCycles := 0, sumS := Tri.all 0, sumN := Tri.all 0
      low := Tri.all none, high := Tri.all none, lockedH := 0, lockedN := 0
      flags := ⟨false, p.aggregator.lastMissing.any (fun m => decide (k * len ≤ m)), false, false, false⟩
      lastMissing := p.aggregator.lastMissing }) →
    (∀ c, vs.entries.get c = none → q.aggregator.sumS.get c = opened.sumS.get c ∧ q.aggregator.sumN.get c = opened.sumN.get c ∧
      q.aggregator.low.get c = opened.low.get c ∧ q.aggregator.high.get c = opened.high.get c) ∧
    (∀ c e, vs.entries.get c = some e →
      q.aggregator.sumS.get c = opened.sumS.get c + e.sum ∧ q.aggregator.sumN.get c = opened.sumN.get c + n ∧
      (e.u = none → q.aggregator.low.get c = opened.low.get c ∧ q.aggregator.high.get c = opened.high.get c) ∧
      (∀ u, e.u = some u → q.aggregator.low.get c = some (min u ((opened.low.get c).getD u)) ∧
        q.aggregator.high.get c = some (max u ((opened.high.get c).getD u)))) ∧
    q.aggregator = { opened with
      halfCycles := opened.halfCycles + 1
      sumS := q.aggregator.sumS, sumN := q.aggregator.sumN, low := q.aggregator.low, high := q.aggregator.high
      lockedH := if vs.result.locked then opened.lockedH + 1 else opened.lockedH
      lockedN := if vs.result.locked then opened.lockedN + n else opened.lockedN
      flags := { opened.flags with
        flagged := opened.flags.flagged || p.classifier.anyOpen || q.classifier.anyOpen
        freeRunning := opened.flags.freeRunning || vs.result.freeRunning
        overRange := opened.flags.overRange ||
          Chan.list.any (fun c => (vs.entries.get c).any (fun e => e.overRange || decide (e.clip ≠ 0))) } } ∧
    (b < p.aggregator.stop → q.commit.bulk = p.commit.bulk ∧ q.commit.withheld = p.commit.withheld) ∧
    (p.aggregator.stop ≤ b →
      (p.commit.bulk.length < 8 → p.journal.state ≠ .blocked → p.journal.state ≠ .faulted → q.commit.withheld = 0 ∧
        q.commit.bulk = p.commit.bulk ++
          [p.buildRec .recorder b (.interval (p.aggregator.record p.profile.inForce p.commit.withheld))]) ∧
      (8 ≤ p.commit.bulk.length ∨ p.journal.state = .blocked ∨ p.journal.state = .faulted →
        q.commit.bulk = p.commit.bulk ∧ q.commit.withheld = min 4294967295 (p.commit.withheld + 1)))) ∧
  (∀ (p : Part) (f age : Nat) (aged : Recurrence), age = p.profile.inForce.recurAge.toNat * 36864000 →
    aged.entries = p.recurrence.entries.map (fun x => x.bind (fun e => if e.lastSeen.frame + age < f then none else some e)) →
    aged.revision = (if p.recurrence.entries.any (fun x => x.any (fun e => decide (e.lastSeen.frame + age < f)))
      then (p.recurrence.revision + 1) % 4294967296 else p.recurrence.revision) →
    p.closeInterval f = Part.evaluateTail { p.handInterval (p.buildRec .recorder f
      (.interval (p.aggregator.record p.profile.inForce p.commit.withheld))) with recurrence := aged }) ∧
  ∀ (a : Aggregator) (pr : Profile) (withheld : Nat),
    (a.record pr withheld).index = a.index ∧ (a.record pr withheld).start = a.start ∧
    (a.record pr withheld).halfCycles = a.halfCycles ∧
    (a.record pr withheld).withheld = (if withheld = 0 then none else some withheld) ∧
    (∀ c, pr.inUse.get c = false ∨ a.low.get c = none → (a.record pr withheld).blocks.get c = none) ∧
    ((∀ c, a.sumS.get c ≤ a.sumN.get c * 2 ^ 30) →
      (∀ c low high, pr.inUse.get c = true → a.low.get c = some low → a.high.get c = some high →
        ∃ root, root * root ≤ a.sumS.get c / a.sumN.get c ∧ a.sumS.get c / a.sumN.get c < (root + 1) * (root + 1) ∧
          (a.record pr withheld).blocks.get c = some ⟨min 65535 ((root * pr.gain c + 2048) / 4096), low, high⟩) ∧
      ∃ limited : Bool, (a.record pr withheld).flags = { a.flags with overRange := a.flags.overRange || limited } ∧
        (limited = true ↔ ∃ c root, pr.inUse.get c = true ∧ a.low.get c ≠ none ∧ root * root ≤ a.sumS.get c / a.sumN.get c ∧
          a.sumS.get c / a.sumN.get c < (root + 1) * (root + 1) ∧ 65535 < (root * pr.gain c + 2048) / 4096)) ∧
    (a.lockedH = 0 → (a.record pr withheld).frequency = none) ∧
    (1 ≤ a.lockedH → 64 * a.lockedH ≤ a.lockedN → a.lockedN ≤ 128 * a.lockedH →
      ∃ f, (a.record pr withheld).frequency = some f ∧ f = (10240000 * a.lockedH + a.lockedN) / (2 * a.lockedN) ∧
        40000 ≤ f ∧ f ≤ 80000 ∧
        2 * a.lockedN * f ≤ 10240000 * a.lockedH + a.lockedN ∧ 10240000 * a.lockedH + a.lockedN < 2 * a.lockedN * (f + 1))

/-- What a lookup answers and leaves: a hit raises the one entry that holds the signature, a miss learns it in the lowest invalid entry,
or in the one last seen longest ago, the lowest among equals; RECURRENCE_THRESHOLD is raised when a hit first reaches the threshold
(R91 to R95). -/
def Obligations.ALookupHitsOrLearns : Prop :=
  ∀ (p : Part) (t : EventType) (chans : ChanSet) (extreme n stop : Nat), p.recurrence.entries.length = 64 → 1 ≤ n →
    (signatureOf t chans extreme n p.profile.inForce.udecl.toNat).type = t ∧
    (signatureOf t chans extreme n p.profile.inForce.udecl.toNat).chans = chans ∧
    (∀ k, (signatureOf t chans extreme n p.profile.inForce.udecl.toNat).duration = k →
      k ≤ 15 ∧ 2 ^ k ≤ n ∧ (k < 15 → n < 2 ^ (k + 1))) ∧
    (∀ k u, u = p.profile.inForce.udecl.toNat → 1 ≤ u → (signatureOf t chans extreme n u).depth = k →
      (t = .swell → u ≤ extreme → k ≤ 7 ∧ k * u ≤ (extreme - u) * 32 ∧ (k < 7 → (extreme - u) * 32 < (k + 1) * u)) ∧
      (t ≠ .swell → extreme ≤ u → k ≤ 7 ∧ k * u ≤ (u - extreme) * 8 ∧ (k < 7 → (u - extreme) * 8 < (k + 1) * u))) ∧
    (∀ i e, p.recurrence.entries[i]? = some (some e) →
      e.signature = signatureOf t chans extreme n p.profile.inForce.udecl.toNat →
      (∀ (j : Nat) (d : RecurEntry), j < i → p.recurrence.entries[j]? = some (some d) →
        d.signature ≠ signatureOf t chans extreme n p.profile.inForce.udecl.toNat) →
      (p.lookup t chans extreme n stop).1 = (i, min 65535 (e.count + 1)) ∧
      (p.lookup t chans extreme n stop).2.recurrence = {
        entries := p.recurrence.entries.set i (some { e with
          count := min 65535 (e.count + 1), lastSeen := ⟨p.receiver.epoch, stop⟩
          noticeSent := e.noticeSent || decide (p.profile.inForce.recurThr.toNat ≤ min 65535 (e.count + 1)) })
        revision := (p.recurrence.revision + 1) % 4294967296 } ∧
      (∀ q, ((p.lookup t chans extreme n stop).2.ports.get q) =
        if e.noticeSent = false ∧ p.profile.inForce.recurThr.toNat ≤ min 65535 (e.count + 1)
        then (p.ports.get q).raise .recurrenceThreshold p.receiver.epoch p.nowFrame (.number i) else p.ports.get q)) ∧
    ((∀ (j : Nat) (d : RecurEntry), p.recurrence.entries[j]? = some (some d) →
        d.signature ≠ signatureOf t chans extreme n p.profile.inForce.udecl.toNat) →
      ∃ i, (p.lookup t chans extreme n stop).1 = (i, 1) ∧ i < 64 ∧
        (p.lookup t chans extreme n stop).2 = { p with recurrence := {
          entries := p.recurrence.entries.set i (some ⟨signatureOf t chans extreme n p.profile.inForce.udecl.toNat, 1,
            ⟨p.receiver.epoch, stop⟩, ⟨p.receiver.epoch, stop⟩, false⟩)
          revision := (p.recurrence.revision + 1) % 4294967296 } } ∧
        ((p.recurrence.entries[i]? = some none ∧ ∀ j : Nat, j < i → p.recurrence.entries[j]? ≠ some none) ∨
          ∃ d : RecurEntry, p.recurrence.entries[i]? = some (some d) ∧
            ∀ j : Nat, j < 64 → ∃ x : RecurEntry, p.recurrence.entries[j]? = some (some x) ∧
              d.lastSeen.frame ≤ x.lastSeen.frame ∧ (j < i → d.lastSeen.frame < x.lastSeen.frame)))

/-- The profile checks: valid exactly when every field is in its range and every cross-field check holds; else the first field out of
range is reported with code 0, or, with every field in range, the first cross-field check that fails with its index and order number
(R157, R158). -/
def Obligations.ProfileChecksAreTheTables : Prop :=
  ∀ (p : Profile) (inRange cross : Nat → Prop) (index : Nat → Nat),
    inRange = (fun i => match i with
      | 1 => 10000 ≤ p.udecl.toNat ∧ p.udecl.toNat ≤ 60000
      | 2 => p.nominalHz.toNat = 50 ∨ p.nominalHz.toNat = 60
      | 3 => 1 ≤ p.channels.toNat ∧ p.channels.toNat ≤ 7
      | 4 => 1 ≤ p.reference.toNat ∧ p.reference.toNat ≤ 3
      | 5 => 1 ≤ p.gain1.toNat
      | 6 => 1 ≤ p.gain2.toNat
      | 7 => 1 ≤ p.gain3.toNat
      | 8 => p.crossHyst.toNat ≤ 4095
      | 9 => 500 ≤ p.dipThr.toNat ∧ p.dipThr.toNat ≤ 950
      | 10 => 1050 ≤ p.swellThr.toNat ∧ p.swellThr.toNat ≤ 1500
      | 11 => 10 ≤ p.intrThr.toNat ∧ p.intrThr.toNat ≤ 100
      | 12 => 5 ≤ p.hyst.toNat ∧ p.hyst.toNat ≤ 50
      | 13 => 10 ≤ p.rvcThr.toNat ∧ p.rvcThr.toNat ≤ 80
      | 14 => 32 ≤ p.rvcWindow.toNat ∧ p.rvcWindow.toNat ≤ 128
      | 15 => 4 ≤ p.burstRun.toNat ∧ p.burstRun.toNat ≤ 64
      | 16 => 10 ≤ p.burstSpacing.toNat ∧ p.burstSpacing.toNat ≤ 6000
      | 17 => 100 ≤ p.burstQuiet.toNat ∧ p.burstQuiet.toNat ≤ 60000
      | 18 => 60 ≤ p.intervalLen.toNat ∧ p.intervalLen.toNat ≤ 3600 ∧ p.intervalLen.toNat % 60 = 0
      | 19 => 256 ≤ p.capPre.toNat ∧ p.capPre.toNat ≤ 2048 ∧ p.capPre.toNat % 256 = 0
      | 20 => 256 ≤ p.capPost.toNat ∧ p.capPost.toNat ≤ 3840 ∧ p.capPost.toNat % 256 = 0
      | 21 => p.capExt.toNat ≤ 3
      | 22 => 1 ≤ p.capHold.toNat ∧ p.capHold.toNat ≤ 168
      | 23 => 2 ≤ p.recurThr.toNat
      | 24 => 1 ≤ p.recurAge.toNat ∧ p.recurAge.toNat ≤ 720
      | 25 => 7 ≤ p.retention.toNat ∧ p.retention.toNat ≤ 400
      | 26 => 1 ≤ p.enrolled.toNat ∧ p.enrolled.toNat ≤ 3
      | 27 => p.commitWeight.toNat = 0 ∨ p.commitWeight.toNat = 4 ∨ p.commitWeight.toNat = 8 ∨ p.commitWeight.toNat = 16
      | 28 => 1 ≤ p.noteTimeout.toNat ∧ p.noteTimeout.toNat ≤ 60
      | _ => True) →
    cross = (fun k => match k with
      | 1 => p.inUse.get p.refChan = true
      | 2 => p.intrThr.toNat + p.hyst.toNat < p.dipThr.toNat
      | 3 => p.dipThr.toNat + p.hyst.toNat < 1000
      | 4 => 1000 + p.hyst.toNat < p.swellThr.toNat
      | 5 => p.rvcThr.toNat + p.dipThr.toNat < 1000
      | 6 => p.rvcThr.toNat + 1000 < p.swellThr.toNat
      | 7 => p.burstSpacing.toNat ≤ p.burstQuiet.toNat
      | 8 => p.capPre.toNat + p.capPost.toNat ≤ 4096
      | _ => True) →
    index = (fun k => match k with
      | 1 => 4 | 2 => 11 | 3 => 9 | 4 => 10 | 5 => 13 | 6 => 13 | 7 => 16 | _ => 20) →
    (p.valid = true ↔ (∀ i, inRange i) ∧ ∀ k, cross k) ∧
    (p.failure = none ↔ (∀ i, inRange i) ∧ ∀ k, cross k) ∧
    (∀ i, ¬ inRange i → (∀ j, j < i → inRange j) → p.failure = some (i, 0)) ∧
    ((∀ i, inRange i) → ∀ k, ¬ cross k → (∀ j, j < k → cross j) → p.failure = some (index k, k))

/-! ## The queues and the writer -/

/-- A command finds the part itself when the frames delivered so far have made nothing due and no waiting note is due to enter (log entries
1, 36). -/
def Obligations.NothingDueNothingSettled : Prop :=
  ∀ s : State, s.part.dueNote = none → s.part.resyncDue = false → s.part.seamDue = false → s.part.forcedDue = none → s.part.freeRunDue = none →
    (∀ i, i < 4 → s.part.slotFullDue i = false ∧ s.part.expiryDue i = false) → s.part.candidateDue = false →
    (∀ t, s.part.quietDue t = false) → s.found = s.part

/-- A recorder-class record enters PRIORITY below 24 records, with no overflow summary and no FAULTED journal; else it is counted in
the summary under its kind and RECORDS_WITHHELD is noticed. An INTERVAL record enters BULK below 8 records while the journal is neither
BLOCKED nor FAULTED, the withheld count then 0; else it is dropped and counted (R117, R118, R123). -/
def Obligations.RecordsEnterTheirQueuesOrAreCounted : Prop :=
  ∀ (p : Part) (r : Rec),
    (p.commit.priority.length < 24 → p.commit.overflow = none → p.journal.state ≠ .faulted →
      p.handRecord r = { p with commit := { p.commit with priority := p.commit.priority ++ [r] } }) ∧
    (24 ≤ p.commit.priority.length ∨ p.commit.overflow ≠ none ∨ p.journal.state = .faulted →
      ∀ b, p.commit.overflow.getD ⟨0, 0, 0, 0, 0, 0, 0, 0, r.frame, r.frame⟩ = b →
        (∀ k, r.payload.kind = k → p.handRecord r = { p with
          commit := { p.commit with overflow := some {
            restart := if k = .restart then min 65535 (b.restart + 1) else b.restart
            supplyFail := if k = .supplyFail then min 65535 (b.supplyFail + 1) else b.supplyFail
            profile := if k = .profile then min 65535 (b.profile + 1) else b.profile
            event := if k = .event then min 65535 (b.event + 1) else b.event
            burst := if k = .burst then min 65535 (b.burst + 1) else b.burst
            capture := if k = .capture then min 65535 (b.capture + 1) else b.capture
            acqGap := if k = .acqGap then min 65535 (b.acqGap + 1) else b.acqGap
            tracking := if k = .tracking then min 65535 (b.tracking + 1) else b.tracking
            first := b.first
            last := r.frame } }
          ports := p.ports.map (fun t => t.raise .recordsWithheld p.receiver.epoch p.nowFrame .none) })) ∧
    (p.commit.bulk.length < 8 → p.journal.state ≠ .blocked → p.journal.state ≠ .faulted →
      p.handInterval r = { p with commit := { p.commit with bulk := p.commit.bulk ++ [r], withheld := 0 } }) ∧
    (8 ≤ p.commit.bulk.length ∨ p.journal.state = .blocked ∨ p.journal.state = .faulted →
      p.handInterval r = { p with
        commit := { p.commit with withheld := min 4294967295 (p.commit.withheld + 1) }
        ports := p.ports.map (fun t => t.raise .recordsWithheld p.receiver.epoch p.nowFrame .none) })

/-- A port-class record enters PRIORITY below 16 records while the journal is not FAULTED and is refused otherwise; a RELEASE record
replaces a waiting one of its party whatever the occupancy, with the previous mark of the one it removes (R120, R121). Where the writer had
chosen the one it removes, the new one is the one chosen (R124); how long it stays so is log entry 40, the MODEL's reading. -/
def Obligations.PortRecordsEnterByThePortShare : Prop :=
  (∀ (p : Part) (r : Rec), p.offer r =
    if p.commit.priority.length < 16 ∧ p.journal.state ≠ .faulted then
      some { p with commit := { p.commit with priority := p.commit.priority ++ [r] } } else none) ∧
  ∀ (p : Part) (q : Party) (newMark prevMark : Nat),
    ((∀ x ∈ p.commit.priority, isReleaseOf q x = false) →
      p.offerRelease q newMark prevMark = p.offer (p.buildRec (.party q) p.nowFrame (.release q newMark prevMark))) ∧
    (∀ before after (w : Rec) (m m' : Nat), p.commit.priority = before ++ w :: after → w.payload = .release q m m' →
      (∀ x ∈ before, isReleaseOf q x = false) →
      p.offerRelease q newMark prevMark =
        if p.journal.state = .faulted then none
        else some { p with
          commit := { p.commit with priority := before ++ after ++ [p.buildRec (.party q) p.nowFrame (.release q newMark m')] }
          array := { p.array with
            chosenRelease := if p.array.choice = some .priority ∧ p.array.chosenRelease = none ∧ before = [] then some q
              else p.array.chosenRelease } })

/-- The writer takes the oldest record of the queue it has chosen, but from PRIORITY the RELEASE that has replaced a chosen one, its place in
the queue aside (R124; log entry 40, the MODEL's reading); the freed entry of PRIORITY takes the overflow summary as an OVERFLOW
record, or below 16 records one waiting note, SUPPLY before PREMISES before FIELD, before a request of the same instant or after it; when
the request is first its record takes the entry and the note stays waiting (R116, R119, R122). That the note waits for the next command
and no longer is the MODEL's choice, log entry 36. -/
def Obligations.AFreedEntryTakesTheSummaryOrAWaitingNote : Prop :=
  (∀ (p : Part) (r : Rec) (rest : List Rec),
    (p.commit.bulk = r :: rest →
      p.takeBulk = { p with commit := { p.commit with bulk := rest, inHand := some r, credit := 0 } }) ∧
    (∀ (before after : List Rec) (a : ArrayState), p.commit.priority = before ++ r :: after → rest = before ++ after →
      a = { p.array with chosenRelease := none } →
      ((∃ q, p.array.chosenRelease = some q ∧ isReleaseOf q r = true ∧ ∀ x ∈ before, isReleaseOf q x = false) ∨
        (before = [] ∧ ∀ q, p.array.chosenRelease = some q → ∀ x ∈ p.commit.priority, isReleaseOf q x = false)) →
      ∀ taken, taken = { p.commit with
        priority := rest, inHand := some r, credit := creditAfter p.profile.inForce.weight p.commit.credit } →
      (∀ o, p.commit.overflow = some o → p.takePriority = { p with
        array := a
        commit := { taken with
          priority := rest ++ [p.buildRec .recorder p.nowFrame (.overflow o)], overflow := none } }) ∧
      (p.commit.overflow = none → (16 ≤ rest.length ∨ p.journal.state = .faulted ∨ ∀ q, (p.ports.get q).waitingNote = none) →
        p.takePriority = { p with array := a, commit := taken }) ∧
      (p.commit.overflow = none → rest.length < 16 → p.journal.state ≠ .faulted → (∃ q, (p.ports.get q).waitingNote ≠ none) →
        ∀ left, left = { p with array := a, commit := taken, freeCount := p.freeCount + 1 } →
          p.takePriority = left.admitNote ∨ p.takePriority = left))) ∧
  (∀ p : Part,
    (16 ≤ p.commit.priority.length ∨ p.journal.state = .faulted ∨ (∀ q, (p.ports.get q).waitingNote = none) → p.admitNote = p) ∧
    (p.commit.priority.length < 16 → p.journal.state ≠ .faulted → ∀ (q : Party) (n : Rec), (p.ports.get q).waitingNote = some n →
      (q = .premises → (p.ports.get .supply).waitingNote = none) →
      (q = .field → (p.ports.get .supply).waitingNote = none ∧ (p.ports.get .premises).waitingNote = none) →
      p.admitNote = { p with commit := { p.commit with priority := p.commit.priority ++ [n] }
                             ports := p.ports.set q { p.ports.get q with note := .idle } })) ∧
  ∀ (s : State) (q : Party) (tag : Byte) (stated : BitVec 64) (quality : Byte), s.servesAsked q → quality.toNat ≤ 3 →
    s.asked.commit.priority.length = 15 → s.asked.journal.state ≠ .faulted →
    exec (.markTime q tag stated quality) s = .next (s.leaves { s.asked with
      commit := { s.asked.commit with priority := s.asked.commit.priority ++
        [s.asked.buildRec (.party q) s.asked.nowFrame (.timeMark stated quality)] }
      ports := s.asked.ports.set q { s.asked.ports.get q with
        response := some ⟨tag, .ok, .timeMark s.asked.receiver.epoch s.asked.nowFrame⟩, ready := true } })

/-- The choice between the queues by the commit weight, and the credit counter after a PRIORITY record is taken (R125). -/
def Obligations.TheWriterChoosesByTheCommitWeight : Prop :=
  ∀ (c : Commit) (w : Nat),
    (c.priority = [] → c.bulk = [] → ∀ x, c.chooseRecord x = none) ∧
    (c.priority ≠ [] → c.bulk = [] → ∀ x, c.chooseRecord x = some .priority) ∧
    (c.priority = [] → c.bulk ≠ [] → ∀ x, c.chooseRecord x = some .bulk) ∧
    (c.priority ≠ [] → c.bulk ≠ [] → c.chooseRecord none = some .priority ∧
      (c.credit < w → c.chooseRecord (some w) = some .priority) ∧ (w ≤ c.credit → c.chooseRecord (some w) = some .bulk)) ∧
    creditAfter none c.credit = 0 ∧ creditAfter (some w) c.credit = min w (c.credit + 1) ∧
    ∀ j, c.credit ≤ w → Nat.repeat (creditAfter (some w)) j c.credit = min w (c.credit + j)

/-- Every request answers BUSY while one of its port's is in progress; STARTING while the scan runs, but for Identify; SUPPLY_FAILING to
Capture Now, Propose and Concur once SUPPLY-FAIL is taken; Port Reset passes check 4 (R172, R173). That the request in progress is
abandoned, because a complete new frame means that its transfer has ended, is the MODEL's reading, log entry 10; that a request which may
offer a record comes before a waiting note that is due is the MODEL's choice, log entry 36 (`foundBy`, `leavesBy`). -/
def Obligations.RequestsPassChecksFourToSix : Prop :=
  ∀ (i : Instr) (w : WireRequest) (s : State), i.wire = some w → s.alive = true →
    (∀ r, ((s.foundBy i).ports.get w.port).inProgress = some r → (∀ q tag, i ≠ .portReset q tag) →
      exec i s = .next (s.leavesBy i { s.foundBy i with ports := (s.foundBy i).ports.set w.port { (s.foundBy i).ports.get w.port with
        inProgress := some { r with abandoned := true }, response := some ⟨w.tag, .busy, .none⟩, ready := true } })) ∧
    (((s.foundBy i).ports.get w.port).inProgress = none → (s.foundBy i).isStarting = true → (∀ q tag, i ≠ .identify q tag) →
      exec i s = .next (s.leavesBy i { s.foundBy i with ports := (s.foundBy i).ports.set w.port { (s.foundBy i).ports.get w.port with
        response := some ⟨w.tag, .starting, .none⟩, ready := true } })) ∧
    (s.serves w.port → s.found.failing = true →
      ((∃ q tag, i = .captureNow q tag) ∨ (∃ q tag e pr, i = .propose q tag e pr) ∨ ∃ q tag n, i = .concur q tag n) →
      exec i s = .next (s.leaves { s.found with ports := s.found.ports.set w.port { s.found.ports.get w.port with
        response := some ⟨w.tag, .supplyFailing, .none⟩, ready := true } }))

/-! ## The sample link and the cycle tracker -/

/-- The first valid frame of an epoch is frame 0: the receiver is RUNNING and the ring holds the frame (R3). -/
def Obligations.TheFirstValidFrameIsFrameZero : Prop :=
  ∀ (s : State) (seq : Byte) (x : Tri Sample), s.alive = true → s.recovering = false → s.part.isStarting = false →
    s.part.failing = false → s.part.receiver.acq = .absent → s.part.receiver.assembling = [] →
    ∃ t, exec (.sampleFrame (sampleLine seq x)) s = .next t ∧
      t.part.receiver = { s.part.receiver with
        acq := .running, lastSeq := some seq, lastSamples := some x, lastFrameTime := some s.part.localTime
        frameIndex := 0, delivered := true } ∧
      t.part.capture.ring = (if 2048 ≤ s.part.capture.ring.length then s.part.capture.ring.drop 1 else s.part.capture.ring) ++
        [⟨0, x, false⟩] ∧
      t.memory = s.memory ∧ t.pins = s.pins ∧ t.pending = s.pending

/-- A valid frame in RUNNING by k: a duplicate is counted and discarded; k up to 5 delivers k − 1 marked repeats of the last samples and
then the frame, the index advancing by k (R4, R5, R101). Each delivered frame, a substitute too, whose index is one above the last that a
FILLING slot's chain holds enters that slot and lowers its remaining count by 1; a HELD slot and a full one take none (R106). -/
def Obligations.RunningFramesAdvanceByK : Prop :=
  ∀ (s : State) (seq l : Byte) (x y : Tri Sample) (k : Nat), s.alive = true → s.part.isStarting = false →
    s.part.failing = false → s.part.receiver.acq = .running → s.part.receiver.assembling = [] →
    s.part.receiver.lastSeq = some l → s.part.receiver.lastSamples = some y → k = (seq - l).toNat →
    (k = 0 → exec (.sampleFrame (sampleLine seq x)) s = .next (s.leaves { s.found with
      receiver := { s.found.receiver with duplicates := min 65535 (s.found.receiver.duplicates + 1) } })) ∧
    (1 ≤ k → k ≤ 5 → s.recovering = false → s.part.receiver.frameIndex + k ≤ 281474976710655 →
      s.part.receiver.substituted ≤ 65535 → s.part.capture.ring.length ≤ 2048 →
      ∃ t, exec (.sampleFrame (sampleLine seq x)) s = .next t ∧
        t.part.receiver = { s.part.receiver with
          acq := .running, lastSeq := some seq, lastSamples := some x, lastFrameTime := some s.part.localTime
          frameIndex := s.part.receiver.frameIndex + k, delivered := true
          substituted := min 65535 (s.part.receiver.substituted + (k - 1)) } ∧
        (∀ r : List RingFrame, r = s.part.capture.ring ++
            (List.range (k - 1)).map (fun j => ⟨s.part.receiver.frameIndex + 1 + j, y, true⟩) ++
            [⟨s.part.receiver.frameIndex + k, x, false⟩] →
          t.part.capture.ring = r.drop (r.length - 2048)) ∧
        (∀ (i : Nat) (c : CapSlot), i < 4 → s.part.capture.slots[i]? = some (some c) → c.held = false → c.next = none →
          k < c.remaining → c.firstFrame + c.frames.length = s.part.receiver.frameIndex + 1 →
          (∀ (j : Nat) (d : Option CapSlot), j ≠ i → s.part.capture.slots[j]? = some d → ∃ h, d = some h ∧ h.held = true ∧
            h.serial ≠ c.serial ∧ s.part.receiver.frameIndex + k < h.holdStart + h.holdLength) →
          t.part.capture.slots = s.part.capture.slots.set i (some { c with
            frames := c.frames ++ List.replicate (k - 1) ⟨y, true⟩ ++ [⟨x, false⟩], remaining := c.remaining - k })) ∧
        t.memory = s.memory ∧ t.pins = s.pins) ∧
    ∀ (c : Capture) (f : RingFrame) (i : Nat),
      (c.slots[i]? = some none → (c.deliver f).slots[i]? = some none) ∧
      ∀ d : CapSlot, c.slots[i]? = some (some d) → (c.deliver f).slots[i]? = some (some
        (if d.held = false ∧ 0 < d.remaining ∧ d.firstFrame + (c.chainFrames d.serial).length = f.index
          then { d with frames := d.frames ++ [f.content], remaining := d.remaining - 1 } else d))

/-- A gap, by a jump of k ≥ 6 or by a resumption after e ms of silence with an advance of floor(e × 256 / 25): no substitute is
delivered, the index advances, the tracker is in RESYNC and has waited one frame, the engine has discarded its sums, open events and a
candidate are marked, the ring holds the new frame alone; every FILLING chain is truncated and HELD from the accepted frame; the ACQ_GAP
record and the chains' CAPTURE records are the newest of PRIORITY when there is room and the array is busy (R6, R8, R12, R26, R46, R65,
R82, R101, R108, R109). That the header flags are all clear, after a SILENCE gap too, the receiver being RUNNING as the records are built,
is the MODEL's reading, log entry 17; that the CAPTURE records come in ascending order of serial is its choice, log entry 8; whether they
come before the ACQ_GAP record is left free, log entry 7. -/
def Obligations.AGapResynchronisesTheRecorder : Prop :=
  ∀ (s : State) (seq : Byte) (x : Tri Sample) (a f : Nat) (cause : GapCause) (serials : List Nat) (ended : Capture),
    s.alive = true → s.recovering = false →
    s.part.isStarting = false → s.part.failing = false → s.part.receiver.assembling = [] → s.entered = s.part → s.found = s.part →
    s.part.profile.deferral = none → f = min 281474976710655 (s.part.receiver.frameIndex + a) →
    serials.Pairwise (fun m n => m < n) → (∀ n, n ∈ serials ↔ ∃ c, some c ∈ s.part.capture.slots ∧ c.held = false ∧ c.serial = n) →
    ended = { s.part.capture with
      ring := [⟨f, x, false⟩], resumed := some f
      slots := s.part.capture.slots.map (fun y => y.map (fun c => if c.serial ∈ serials
        then { c with
          held := true, truncated := true, remaining := 0, holdStart := f
          holdLength := s.part.profile.inForce.capHold.toNat * 36864000 }
        else c)) } →
    ((∃ l, s.part.receiver.acq = .running ∧ s.part.receiver.lastSeq = some l ∧ a = (seq - l).toNat ∧ 6 ≤ a ∧ cause = .jump) ∨
      ∃ last, s.part.receiver.acq = .lost ∧ s.part.receiver.lastFrameTime = some last ∧
        a = min 4294967295 (s.part.localTime - last) * 256 / 25 ∧ cause = .silence) →
    ∃ t, exec (.sampleFrame (sampleLine seq x)) s = .next t ∧
      t.part.receiver = { s.part.receiver with
        acq := .running, lastSeq := some seq, lastSamples := some x, lastFrameTime := some s.part.localTime
        frameIndex := min 281474976710655 (s.part.receiver.frameIndex + a), delivered := true } ∧
      t.part.tracker = { s.part.tracker with
        mode := .resync, openHalf := none, framesWaited := 1
        arm := armsAfter s.part.profile.inForce x (Tri.all .none)
        crossed := ChanSet.empty, lastCrossed := ChanSet.empty, lengthRun := 0, spellCount := 0, refRun := 0, ret := .none } ∧
      t.part.engine = { s.part.engine with
        openSum := Tri.all 0, openClip := Tri.all 0, openCount := 0, prevValid := Tri.all false } ∧
      t.part.classifier = { s.part.classifier with
        dip := s.part.classifier.dip.map (fun e => { e with flags := { e.flags with spansGap := true } })
        swell := s.part.classifier.swell.map (fun e => { e with flags := { e.flags with spansGap := true } })
        interruption := s.part.classifier.interruption.map (fun e => { e with flags := { e.flags with spansGap := true } }) } ∧
      t.part.rvc = (if s.part.rvc.mode = .candidate
        then { s.part.rvc with window := [], flags := { s.part.rvc.flags with spansGap := true } }
        else { s.part.rvc with window := [], mode := .steadyWait }) ∧
      t.part.aggregator = { s.part.aggregator with
        flags := { s.part.aggregator.flags with
          gap := s.part.aggregator.flags.gap || decide (s.part.receiver.frameIndex + 1 < s.part.aggregator.stop) }
        lastMissing := some (s.part.receiver.frameIndex + (a - 1)) } ∧
      t.part.folds = s.part.folds ∧ t.part.recurrence = s.part.recurrence ∧ t.part.profile = s.part.profile ∧
      t.part.capture = ended ∧ t.memory = s.memory ∧ t.pins = s.pins ∧
      (s.part.commit.priority.length + serials.length < 24 →
        s.part.commit.overflow = none → s.part.journal.state ≠ .faulted → s.part.array.op.isSome = true →
        ∀ (dated : Payload → Rec) (gap captures : List Rec),
          (∀ w, dated w = {
            origin := .recorder, flags := ⟨false, false, false⟩, epoch := s.part.receiver.epoch, frame := f
            seconds := s.part.journal.epochBase + f / 10240, payload := w }) →
          gap = [dated (.acqGap (s.part.receiver.frameIndex + 1) (a - 1) cause)] →
          captures = serials.filterMap (fun n => (ended.record n).map (fun c => dated (.capture c))) →
          t.part.commit.priority = s.part.commit.priority ++ gap ++ captures ∨
          t.part.commit.priority = s.part.commit.priority ++ captures ++ gap)

/-- A frame whose check value fails is discarded and counted, and the search goes on at the next sync value after its sync byte; a byte
with a low stop bit discards and counts every frame that one of the sync values before it begins; bytes before a sync value are passed
over; while the scan runs or SUPPLY-FAIL is handled nothing is checked or counted (R2, R3, R9). -/
def Obligations.BadFramesAreCountedAndSearchedAgain : Prop :=
  ∀ (s : State) (bs : List Byte), s.alive = true → s.found.receiver.assembling = [] →
    (s.found.isStarting = true ∨ s.found.failing = true →
      ∀ line, exec (.sampleFrame line) s = .next (s.leaves s.found)) ∧
    (s.found.isStarting = false → s.found.failing = false →
      ((∀ b ∈ bs, b ≠ 0xC3#8) → exec (.sampleFrame (bs.map (fun b => ⟨b, true⟩))) s = .next (s.leaves s.found)) ∧
      (bs = [] ∨ bs.head? = some 0xC3#8 → bs.length ≤ 9 → ∀ b,
        exec (.sampleFrame (bs.map (fun b => ⟨b, true⟩) ++ [⟨b, false⟩])) s = .next (s.leaves { s.found with
          receiver := { s.found.receiver with
            checkFailed := min 65535 (s.found.receiver.checkFailed + bs.count 0xC3#8), assembling := [] } })) ∧
      (bs.head? = some 0xC3#8 → bs.length = 10 → checkHolds bs = false →
        ∃ skipped again, bs.drop 1 = skipped ++ again ∧ (∀ b ∈ skipped, b ≠ 0xC3#8) ∧
          (again = [] ∨ again.head? = some 0xC3#8) ∧
          exec (.sampleFrame (bs.map (fun b => ⟨b, true⟩))) s = .next (s.leaves { s.found with receiver := { s.found.receiver with
            checkFailed := min 65535 (s.found.receiver.checkFailed + 1), assembling := again } })))

/-- What local time makes due: 8 ms without a frame enter LOST; a proposal at its expiry lapses, one that is consented does not; a note at its
timeout becomes a NOTE record when PRIORITY has fewer than 16 records and the journal is not FAULTED, and waits with it otherwise (R7, R162,
R163, R185). That PROPOSAL_LAPSE before the expiry or without a proposal changes nothing is the MODEL's choice, log entry 3. -/
def Obligations.LocalTimeEndsSilenceProposalsAndNotes : Prop :=
  ∀ s : State, s.alive = true →
    (∀ f, s.found.receiver.acq = .running → s.found.failing = false → s.found.isStarting = false →
      s.found.receiver.lastFrameTime = some f → f + 8 ≤ s.found.localTime →
      exec .silenceTimerExpiry s = .next (s.leaves { s.found with
        receiver := { s.found.receiver with acq := .lost }
        ports := s.found.ports.map (fun t =>
          t.raise .acquisitionLost s.found.receiver.epoch s.found.nowFrame (.number s.found.receiver.frameIndex)) })) ∧
    (∀ pr, s.found.profile.proposal = some pr → pr.consented = false → pr.expiry ≤ s.found.localTime →
      exec .proposalLapse s = .next (s.leaves { s.found with
        profile := { s.found.profile with proposal := none }
        ports := s.found.ports.set pr.proposer ((s.found.ports.get pr.proposer).raise .proposalLapsed s.found.receiver.epoch
          s.found.nowFrame (.number pr.number.toNat)) })) ∧
    ((∀ pr, s.found.profile.proposal = some pr → pr.consented = true ∨ s.found.localTime < pr.expiry) →
      exec .proposalLapse s = .next (s.leaves s.found)) ∧
    (∀ (q : Party) (c : NoteContent) (last : Nat) (r : Rec), (s.found.ports.get q).note = .assembling c last →
      last + s.found.profile.inForce.noteTimeout.toNat * 1000 ≤ s.found.localTime →
      r = s.found.buildRec (.party q) s.found.nowFrame (.note c.topic c.beginFrame .timeout c.truncated c.text) →
      (s.found.commit.priority.length < 16 → s.found.journal.state ≠ .faulted →
        exec (.noteTimeout q) s = .next (s.leaves { s.found with
          commit := { s.found.commit with priority := s.found.commit.priority ++ [r] }
          ports := s.found.ports.set q { s.found.ports.get q with note := .idle } })) ∧
      (16 ≤ s.found.commit.priority.length ∨ s.found.journal.state = .faulted →
        exec (.noteTimeout q) s = .next (s.leaves { s.found with
          ports := s.found.ports.set q { s.found.ports.get q with note := .awaiting c r } })))

/-- A wait of 128 frames in RESYNC or in the return seam ends in FREE_RUNNING with a half-cycle opened at the 128th frame and a TRACKING
record (R12, R17, R19). That the command changes nothing before that is the MODEL's choice, log entry 3. -/
def Obligations.AWaitThatRunsOutEntersFreeRunning : Prop :=
  ∀ (s : State) (p : Part), s.alive = true → p = s.entered →
    (∀ c, (c = .resyncTimeout ∧ p.tracker.mode = .resync) ∨ (c = .seamTimeout ∧ p.tracker.ret = .seam) →
      (128 ≤ p.tracker.framesWaited →
        exec c s = .next (s.leaves ({ p with tracker := { p.tracker with
          mode := .freeRunning, openHalf := some ⟨p.receiver.frameIndex, false, none⟩, lengthRun := 0, spellCount := 0
          spellRef := p.tracker.active, ret := .none } }.handRecord (p.buildRec .recorder p.receiver.frameIndex
            (.tracking .freeRunEntered p.tracker.active p.tracker.active 0))))) ∧
      (p.tracker.framesWaited < 128 → exec c s = .next (s.leaves p)))

/-- A boundary set by length: the forced boundary of LOCKED at 128 frames and the free-run boundary of FREE_RUNNING, with the tracker
and the engine after them, the value set formed and, for a forced boundary, the TRACKING record queued or counted as withheld
(R13, R14, R15, R16, R18, R22, R27). That the half-cycle a forced boundary closes is not marked free-running is the MODEL's reading, log
entry 34. -/
def Obligations.ABoundaryIsSetByLength : Prop :=
  ∀ (s : State) (h : OpenHalf) (n : Nat), s.alive = true → s.recovering = false → s.part.profile.deferral = none →
    s.part.tracker.openHalf = some h → n = s.part.receiver.frameIndex - h.start →
    ∀ (c : Instr) (forced : Bool),
      (c = .forcedBoundary ∧ forced = true ∧ s.part.tracker.mode = .locked ∧ 128 ≤ n) ∨
      (c = .freeRunBoundary ∧ forced = false ∧ s.part.tracker.mode = .freeRunning ∧ s.part.profile.inForce.freeRunLength ≤ n) →
      ∃ t vs, exec c s = .next t ∧
        t.part.tracker = { s.part.tracker with
          mode := .freeRunning, openHalf := some ⟨s.part.receiver.frameIndex, false, none⟩
          crossed := ChanSet.empty, lastCrossed := s.part.tracker.crossed
          refRun := if s.part.tracker.crossed.get s.part.profile.inForce.refChan then min 255 (s.part.tracker.refRun + 1) else 0
          lengthRun := if forced then 1 else if 4 ≤ s.part.tracker.lengthRun + 1 then 0 else s.part.tracker.lengthRun + 1
          active := if forced = false ∧ 4 ≤ s.part.tracker.lengthRun + 1
            then (if s.part.inUse.get s.part.tracker.active.after then s.part.tracker.active.after
              else if s.part.inUse.get s.part.tracker.active.after.after then s.part.tracker.active.after.after
              else s.part.tracker.active)
            else s.part.tracker.active
          spellCount := if forced then 1 else min 65535 (s.part.tracker.spellCount + 1)
          spellRef := if forced then s.part.tracker.active else s.part.tracker.spellRef
          ret := if forced then .none else s.part.tracker.ret } ∧
        vs.result = ⟨h.start, s.part.receiver.frameIndex, n, forced, !forced, h.substituted, false,
          if forced then .forced else .freeRun⟩ ∧
        vs.inUse = s.part.inUse ∧
        (∀ ch, vs.entries.get ch =
          if s.part.inUse.get ch then some (s.part.engine.entry s.part.profile.inForce ch) else none) ∧
        t.part.engine = { s.part.engine with
          prevSum := s.part.engine.openSum, prevClip := s.part.engine.openClip, prevCount := s.part.engine.openCount
          prevValid := s.part.inUse, openSum := Tri.all 0, openClip := Tri.all 0, openCount := 0, last := some vs } ∧
        t.memory = s.memory ∧ t.pins = s.pins ∧
        (forced = true → s.part.array.op.isSome = true →
          (∃ r ∈ t.part.commit.priority, r.payload = .tracking .freeRunEntered s.part.tracker.active s.part.tracker.active 1 ∧
            r.frame = s.part.receiver.frameIndex) ∨
          ∃ o, t.part.commit.overflow = some o ∧ 1 ≤ o.tracking)

/-- A delivered frame at the tracker and the engine (R11, R12, R13, R14, R16, R17, R19): while a half-cycle is open the square of each in-use
channel's sample is added to its open sum, a sample of −32,768 or +32,767 to its clip count, and the open count rises by 1, the frame that
closes a half-cycle being summed into it (R20, R21, R22); a crossing of the active reference opens a half-cycle where none
is open, is no boundary below 64 frames, and from 64 frames on closes the half-cycle, regains the lock or applies a pending return, these
two with their TRACKING records queued or counted as withheld. -/
def Obligations.CrossingsOpenAndCloseHalfCycles : Prop :=
  ∀ (p : Part) (x : Tri Sample) (sub : Bool) (crossed : ChanSet) (arms : Tri Arm), p.profile.deferral = none →
    (∀ c h, h = (p.profile.inForce.crossHyst.toNat : Int) →
      let v := (x.get c).toInt
      let high := h ≤ v ∧ 1 ≤ v
      let low := v ≤ -h ∧ v ≤ -1
      (crossed.get c = true ↔ p.inUse.get c = true ∧ ((high ∧ p.tracker.arm.get c = .low) ∨ (low ∧ p.tracker.arm.get c = .high))) ∧
      (p.inUse.get c = true → (high → arms.get c = .high) ∧ (low → arms.get c = .low) ∧
        (¬ high → ¬ low → arms.get c = p.tracker.arm.get c)) ∧
      (p.inUse.get c = false → arms.get c = .none)) →
    ∀ act f ref, act = p.tracker.active → f = p.receiver.frameIndex → ref = p.profile.inForce.refChan →
    (p.tracker.openHalf = none →
      (p.track x sub).engine = p.engine ∧
      (p.track x sub).tracker = (if crossed.get act
        then { p.tracker with arm := arms, framesWaited := min 128 (p.tracker.framesWaited + 1), mode := .locked, ret := .none
                              openHalf := some ⟨f, false, some act⟩ }
        else { p.tracker with arm := arms, framesWaited := min 128 (p.tracker.framesWaited + 1) })) ∧
    (∀ h : OpenHalf, p.tracker.openHalf = some h → ∀ sums clips : Tri Nat,
      (∀ c, (sums.get c : Int) = p.engine.openSum.get c + if p.inUse.get c then (x.get c).toInt * (x.get c).toInt else 0) →
      (∀ c, clips.get c = p.engine.openClip.get c +
        if p.inUse.get c = true ∧ ((x.get c).toInt = -32768 ∨ (x.get c).toInt = 32767) then 1 else 0) →
      (crossed.get act = false ∨ f - h.start < 64 →
        (p.track x sub).engine = { p.engine with openSum := sums, openClip := clips, openCount := p.engine.openCount + 1 } ∧
        (p.track x sub).tracker = { p.tracker with
          arm := arms, crossed := p.tracker.crossed.union crossed
          openHalf := some { h with substituted := h.substituted || sub } }) ∧
      (crossed.get act = true → 64 ≤ f - h.start →
        ∀ run, run = (if (p.tracker.crossed.union crossed).get ref then min 255 (p.tracker.refRun + 1) else 0) →
        (p.track x sub).engine.last.map ValueSet.result = some ⟨h.start, f, f - h.start, false,
          decide (p.tracker.mode = .freeRunning), h.substituted || sub, decide (h.openedBy = some act), .crossing⟩ ∧
        (p.track x sub).engine = { p.engine with
          prevSum := sums, prevClip := clips, prevCount := p.engine.openCount + 1, prevValid := p.inUse
          openSum := Tri.all 0, openClip := Tri.all 0, openCount := 0, last := (p.track x sub).engine.last } ∧
        (p.tracker.mode = .locked → p.tracker.ret = .pending →
          (p.track x sub).tracker = { p.tracker with
            arm := arms, lengthRun := 0, refRun := run, lastCrossed := p.tracker.crossed.union crossed, crossed := ChanSet.empty
            active := ref, ret := .seam, openHalf := none, framesWaited := 0 }) ∧
        (p.tracker.mode = .locked → p.tracker.ret = .none →
          (p.track x sub).tracker = { p.tracker with
            arm := arms, lengthRun := 0, refRun := run, lastCrossed := p.tracker.crossed.union crossed, crossed := ChanSet.empty
            openHalf := some ⟨f, false, some act⟩, ret := if act ≠ ref ∧ 8 ≤ run then .pending else .none }) ∧
        (p.tracker.mode = .freeRunning → p.tracker.ret = .none →
          (p.track x sub).tracker = { p.tracker with
            mode := .locked, arm := arms, lengthRun := 0, refRun := run
            lastCrossed := p.tracker.crossed.union crossed, crossed := ChanSet.empty
            openHalf := some ⟨f, false, some act⟩, ret := if act ≠ ref ∧ 8 ≤ run then .pending else .none }) ∧
        ∀ w, (p.tracker.mode = .freeRunning ∧ w = .tracking .lockRegained p.tracker.spellRef act p.tracker.spellCount) ∨
            (p.tracker.mode = .locked ∧ p.tracker.ret = .pending ∧ w = .tracking .referenceReturned act ref 0) →
          (∃ r ∈ (p.track x sub).commit.priority, r.payload = w ∧ r.frame = f ∧ r.origin = .recorder) ∨
          ∃ o, (p.track x sub).commit.overflow = some o ∧ 1 ≤ o.tracking))

/-! ## Events, folds, captures and adoption -/

/-- A value set at the classifier: fold counts, flags and open events brought up to date, then machines closed in the order interruption,
dip, swell and opened in the order dip, interruption, swell (R37 to R41, R68). An event that closes has its machine IDLE and is recorded
with its lookup, or merged into its fold (R42, R48, R51, R55, R71). One that opens starts at the boundary with its extreme, channels and
flags; a fold that is OPEN folds it under the burst number, else the run is counted, a number drawn, an interruption linked with its dip
and a capture asked for, which is SHARED with the dip's FILLING chain, TAKEN in the lowest FREE slot from the ring, or REFUSED with its
notice (R42 to R44, R49, R69, R71, R102 to R106). A slot whose trigger frame a gap has taken is truncated at once, its hold from the
accepted frame that followed (R106, R109); that this is the latest gap's, and that a FILLING slot's hold is 0, are the MODEL's choices, log
entries 38 and 42. A merge counts the event and its half-cycles up to 4,294,967,295, keeps the first start, takes the last end, takes a
strictly more extreme value with its channel or the first, and joins channels and flags (R71); what an empty summary holds is the MODEL's
choice, log entry 5. -/
def Obligations.EventsOpenAndClose : Prop :=
  (∀ (p : Part) (vs : ValueSet) (beats : EventType → Nat → Nat → Prop) (ranged : Bool) (flags : Tri ChanFlags),
    (∀ t a b, beats t a b ↔ if t = .swell then b < a else a < b) →
    (ranged = true ↔ ∃ c y, vs.inUse.get c = true ∧ vs.entries.get c = some y ∧ y.overRange = true) →
    flags = Tri.build (flagsAfter p.engine.levels vs p.classifier.flags) →
    ∃ upToDate : EventType → OpenEvent → OpenEvent,
      (∀ t e, upToDate t e = { e with
          halfCycles := min 4294967295 (e.halfCycles + 1), extreme := (upToDate t e).extreme
          extremeChan := (upToDate t e).extremeChan
          chans := e.chans.union (Tri.build (fun c => vs.inUse.get c && (flags.get c).of t))
          flags := { e.flags with
            overRange := e.flags.overRange || ranged, freeRunning := e.flags.freeRunning || vs.result.freeRunning } } ∧
        ((∀ c u, vs.value c = some u → ¬ beats t u e.extreme) →
          (upToDate t e).extreme = e.extreme ∧ (upToDate t e).extremeChan = e.extremeChan) ∧
        (∀ c u, vs.value c = some u → beats t u e.extreme → ∃ ch x, vs.value ch = some x ∧
          (∀ d v, vs.value d = some v → ¬ beats t v x ∧ (d.number < ch.number → beats t x v)) ∧
          (upToDate t e).extreme = x ∧ (upToDate t e).extremeChan = ch)) ∧
      ∀ (counted : Fold → Fold) (a : Part), (∀ f, counted f = { f with sinceEnd := f.sinceEnd.map (fun n => min 65535 (n + 1)) }) →
        a = { p with
          folds := ⟨counted p.folds.dip, counted p.folds.swell, counted p.folds.rvc⟩
          classifier := { p.classifier with
            flags := flags, dip := p.classifier.dip.map (upToDate .dip), swell := p.classifier.swell.map (upToDate .swell)
            interruption := p.classifier.interruption.map (upToDate .interruption) } } →
        (p.classify vs).2 = (((((a.closeStep vs .interruption).closeStep vs .dip).closeStep vs .swell).openStep vs .dip).openStep vs
          .interruption).openStep vs .swell) ∧
  (∀ (p : Part) (vs : ValueSet) (t : EventType) (e : OpenEvent), p.classifier.machine t = some e →
    (openCondition t vs.inUse p.classifier.flags = true → p.closeStep vs t = p) ∧
    (openCondition t vs.inUse p.classifier.flags = false →
      ∀ found, found = p.lookup t e.chans e.extreme (e.halfCycles - 1) vs.result.boundary →
      (p.closeStep vs t).recurrence = found.2.recurrence ∧
      (p.closeStep vs t).classifier = p.classifier.setMachine t none ∧
      (∀ ft, t.fold ≠ some ft → (p.closeStep vs t).folds.get ft = p.folds.get ft) ∧
      (∀ ft, t.fold = some ft → (p.closeStep vs t).folds.get ft = { p.folds.get ft with
        sinceEnd := some 0
        summary := if e.folded then (p.folds.get ft).summary.merge ft ⟨e.start, some vs.result.boundary, e.halfCycles - 1, e.extreme,
          e.extremeChan, e.chans, ⟨e.flags.spansGap, e.flags.overRange, e.flags.freeRunning, false, false⟩⟩
          else (p.folds.get ft).summary }) ∧
      (e.folded = true → (p.closeStep vs t).commit = p.commit) ∧
      (e.folded = false → p.recorderRoom = true → (p.closeStep vs t).commit = { p.commit with
        priority := p.commit.priority ++ [p.buildRec .recorder vs.result.boundary (.event {
          subType := t.subType, number := e.number.getD 0, start := e.start, stop := some vs.result.boundary
          halfCycles := e.halfCycles - 1, extreme := e.extreme, extremeChan := e.extremeChan, uss := none, chans := e.chans
          flags := { spansGap := e.flags.spansGap, overRange := e.flags.overRange, freeRunning := e.flags.freeRunning
                     recurrent := decide (p.profile.inForce.recurThr.toNat ≤ found.1.2)
                     closedByProfile := false, closedBySupplyFail := false
                     sharedCapture := e.capture.isShared, captureRefused := decide (e.capture = .refused) }
          linked := e.linked, serial := e.capture.serial, recurrence := some found.1 })] }))) ∧
  ∀ (p : Part) (vs : ValueSet) (t : EventType) (opens : Prop) (beats : Nat → Nat → Prop) (ranged : Bool) (b n next : Nat),
    (∀ c, vs.inUse.get c = false → vs.entries.get c = none) → b = vs.result.boundary → n = p.classifier.nextEvent →
    next = (if 4294967295 ≤ n then 1 else n + 1) →
    (opens ↔ if t = .interruption then ∀ c, vs.inUse.get c = true → (p.classifier.flags.get c).intr = true
      else ∃ c, vs.inUse.get c = true ∧ (p.classifier.flags.get c).of t = true) →
    (∀ x y, beats x y ↔ if t = .swell then y < x else x < y) →
    (ranged = true ↔ ∃ c y, vs.inUse.get c = true ∧ vs.entries.get c = some y ∧ y.overRange = true) →
    (p.classifier.machine t ≠ none ∨ ¬ opens → p.openStep vs t = p) ∧
    (p.classifier.machine t = none → opens → (∃ c, vs.value c ≠ none) →
      ∃ (x : Nat) (ch : Chan), vs.value ch = some x ∧
        (∀ d v, vs.value d = some v → ¬ beats v x ∧ (d.number < ch.number → beats x v)) ∧
        ∀ e : OpenEvent, e = {
            folded := false, number := some n, start := b, halfCycles := 1, extreme := x, extremeChan := ch
            chans := Tri.build (fun c => vs.inUse.get c && (p.classifier.flags.get c).of t)
            flags := ⟨false, ranged, vs.result.freeRunning⟩, capture := .absent, linked := none } →
          (∀ ft f, t.fold = some ft → f = p.folds.get ft → f.isOpen = true → p.openStep vs t = { p with
            classifier := { p.classifier with nextEvent := if f.burst = none then next else n }.setMachine t
              (some { e with folded := true, number := none })
            folds := p.folds.set ft { f with burst := some (f.burst.getD n) } }) ∧
          ∀ (folds : Folds) (linked : Option Nat) (q : Part) (opened : CaptureAnswer → Part → Part),
            ((t.fold = none ∧ folds = p.folds) ∨
              ∃ ft f run, t.fold = some ft ∧ f = p.folds.get ft ∧ f.isOpen = false ∧
                run = (match f.sinceEnd with
                  | some d => if d ≤ p.profile.inForce.burstSpacing.toNat then f.runCount + 1 else 1
                  | none => 1) ∧
                folds = p.folds.set ft (if p.profile.inForce.burstRun.toNat ≤ run
                  then { f with runCount := run, isOpen := true, summary := emptySummary, burst := none }
                  else { f with runCount := run })) →
            linked = (if t = .interruption
              then p.classifier.dip.bind (fun d => if d.folded then p.folds.dip.burst else d.number) else none) →
            q = { p with
              folds := folds
              classifier := { p.classifier with
                nextEvent := next
                dip := if t = .interruption
                  then p.classifier.dip.map (fun d => if d.folded = false ∧ d.linked = none then { d with linked := some n } else d)
                  else p.classifier.dip } } →
            (∀ a r, opened a r = { r with classifier := q.classifier.setMachine t (some { e with linked := linked, capture := a }) }) →
            ∀ shares : Nat → Prop, (∀ k, shares k ↔ t = .interruption ∧ ∃ c, some c ∈ p.capture.slots ∧ c.held = false ∧
              c.trigger = .dip ∧ c.event = linked ∧ linked ≠ none ∧ c.serial = k) →
            (∀ k, shares k → (∀ l, shares l → l = k) → p.openStep vs t = opened (.shared k) q) ∧
            ((∀ k, ¬ shares k) →
              ((∀ y ∈ p.capture.slots, y ≠ none) → p.openStep vs t = opened .refused { q with
                ports := p.ports.map (fun u => u.raise .captureSlotsFull p.receiver.epoch p.nowFrame (.number n)) }) ∧
              ∀ (i serial pre target : Nat) (before after : List RingFrame) (slot : CapSlot) (taken : CapSlot → Capture),
                p.capture.slots[i]? = some none → (∀ j : Nat, j < i → p.capture.slots[j]? ≠ some none) →
                serial = p.capture.nextSerial → before = p.capture.ring.filter (fun r => decide (r.index ≤ b)) →
                pre = min p.profile.inForce.capPre.toNat before.length →
                target = p.profile.inForce.capPre.toNat + p.profile.inForce.capPost.toNat →
                after = (p.capture.ring.filter (fun r => decide (b < r.index))).take (target - pre) →
                slot = {
                  held := false, serial := serial, trigger := t.trigger, event := some n, origin := .recorder, triggerFrame := b
                  firstFrame := if p.receiver.delivered then b + 1 - pre else 0
                  preCount := pre, frames := (before.drop (before.length - pre) ++ after).map RingFrame.content
                  remaining := target - pre - after.length, allowance := p.profile.inForce.capExt.toNat
                  target := target, preTrigger := p.profile.inForce.capPre.toNat, next := none
                  truncated := false, released := ⟨false, false, false⟩, holdStart := 0, holdLength := 0 } →
                (∀ c, taken c = { p.capture with
                  slots := p.capture.slots.set i (some c), nextSerial := if 4294967295 ≤ serial then 1 else serial + 1 }) →
                ((p.receiver.delivered = true → ∀ a, p.capture.resumed = some a → a ≤ b) →
                  p.openStep vs t = opened (.taken serial) { q with capture := taken slot }) ∧
                (∀ a, p.receiver.delivered = true → p.capture.resumed = some a → b < a → p.capture.slots.length = 4 →
                  (∀ c, some c ∈ p.capture.slots → c.serial ≠ serial) →
                  p.openStep vs t = opened (.taken serial) (Part.handRecord { q with capture := taken { slot with
                      held := true, firstFrame := b + 1, preCount := 0, frames := [], remaining := 0, truncated := true
                      holdStart := a, holdLength := p.profile.inForce.capHold.toNat * 36864000 } }
                    (p.buildRec .recorder a (.capture {
                      serial := serial, trigger := t.trigger, event := some n, origin := .recorder, triggerFrame := b, preCount := 0
                      total := 0, slots := 1, truncated := true })))))) ∧
  ∀ (old new : Summary) (t : FoldType) (e : Ending) (takes : Prop), new = old.merge t e →
    (takes ↔ old.count = 0 ∨ if t = .dip then e.extreme < old.extreme else old.extreme < e.extreme) →
    new.count = min 4294967295 (old.count + 1) ∧ new.total = min 4294967295 (old.total + e.halfCycles) ∧
    new.firstStart = (if old.count = 0 then e.start else old.firstStart) ∧ new.lastEnd = e.stop ∧
    (takes → new.extreme = e.extreme ∧ new.extremeChan = e.extremeChan) ∧
    (¬ takes → new.extreme = old.extreme ∧ new.extremeChan = old.extremeChan) ∧
    (∀ c, new.chans.get c = (old.chans.get c || e.chans.get c)) ∧
    new.flags = {
      spansGap := old.flags.spansGap || e.flags.spansGap, overRange := old.flags.overRange || e.flags.overRange
      freeRunning := old.flags.freeRunning || e.flags.freeRunning
      closedByProfile := old.flags.closedByProfile || e.flags.closedByProfile
      closedBySupplyFail := old.flags.closedBySupplyFail || e.flags.closedBySupplyFail }

/-- A candidate reaches its limit of 6,000 value sets and is discarded; a fold's quiet period of P value sets without an open event
closes it, with its BURST record when it holds a folded event (R64, R70, R72, R75). R64 says STEADY_WAIT with the windows emptied: that the
other fields of the monitor then hold cleared values is the MODEL's reading, log entry 29. That an undue command changes nothing is its
choice, log entry 3; so is what an empty summary holds, log entry 5. -/
def Obligations.CandidatesAndFoldsRunOut : Prop :=
  ∀ (s : State) (p : Part), s.alive = true → p = s.entered → p.failing = false →
    (p.rvc.mode = .candidate → 6000 ≤ p.rvc.count →
      exec .candidateTimeout s = .next (s.leaves { p with
        rvc := { mode := .steadyWait, window := [], preMean := Tri.all 0, uMax := 0, uMaxChan := .c1, start := 0, count := 0
                 affected := ChanSet.empty, flags := ⟨false, false, false⟩ }
        folds := { p.folds with rvc := { p.folds.rvc with startDistance := none } } })) ∧
    (p.rvc.mode ≠ .candidate ∨ p.rvc.count < 6000 → exec .candidateTimeout s = .next (s.leaves p)) ∧
    (∀ (t : FoldType) (f : Fold) (n : Nat), p.folds.get t = f → f.isOpen = true → f.sinceEnd = some n →
      (match t with
        | .dip => p.classifier.dip = none
        | .swell => p.classifier.swell = none
        | .rvc => p.rvc.mode ≠ .candidate) →
      (n < p.profile.inForce.burstQuiet.toNat → exec (.foldQuietClose t) s = .next (s.leaves p)) ∧
      (p.profile.inForce.burstQuiet.toNat ≤ n →
        ∀ q, q = (if 1 ≤ f.summary.count
          then p.handRecord (p.buildRec .recorder p.nowFrame (.burst ⟨t, f.burst.getD 0, f.summary, .quiet⟩))
          else p) →
        exec (.foldQuietClose t) s = .next (s.leaves { q with folds := p.folds.set t { f with
          isOpen := false, runCount := 0, burst := none
          summary := ⟨0, 0, none, 0, .c1, ChanSet.empty, 0, ⟨false, false, false, false, false⟩⟩ } })))

/-- A consented proposal is adopted at the first boundary at which no event is open, no candidate is followed, the journal is not BLOCKED
and no erase stands against it, timed by the boundary and not forced; else by FORCED_ADOPTION 60,000 ms after consent, timed by the newest
frame and forced, which a change of the enrolled parties or the retention age makes wait for an erase called for or in progress
(R164, R165). It leaves what `adoptedAs` says, down to the recurrence table, kept where no signature field changes, and the EVENT and BURST
records handed on before the PROFILE record (R52, R53, R64, R73, R85, R87, R96, R97, R123, R166, R167, R168). That the forced mark stands
while that erase is awaited is the MODEL's reading, log entry 15; so are the fields the monitor holds outside CANDIDATE, log entry 29. That
the quiet closes and the candidate's limit of a boundary come before its test and the interval's record before the tail's evaluation, that an
undue FORCED_ADOPTION changes nothing, and what an empty fold summary holds are its choices, log entries 8, 3 and 5; so is that an erase called for under marks or a retention age that the
adoption changes is withdrawn, log entry 43. -/
def Obligations.AConsentIsAdoptedAtAQuietBoundaryOrByForce : Prop :=
  (∀ (s : State) (d : Deferral) (pr : Proposal) (old : Profile), s.alive = true → s.found.profile.deferral = some d →
    s.found.profile.proposal = some pr → old = s.found.profile.inForce →
    (s.found.localTime < d.start + 60000 → exec .forcedAdoption s = .next (s.leaves s.found)) ∧
    (d.start + 60000 ≤ s.found.localTime →
      ((old.enrolled ≠ pr.contents.enrolled ∨ old.retention ≠ pr.contents.retention) → s.found.journal.state = .erasing →
        exec .forcedAdoption s = .next (s.leaves { s.found with
          profile := { s.found.profile with deferral := some { d with forced := true } } })) ∧
      ((old.enrolled = pr.contents.enrolled ∧ old.retention = pr.contents.retention) ∨ s.found.journal.state ≠ .erasing →
        ∃ u, exec .forcedAdoption s = .next (s.leaves u) ∧ s.found.adoptedAs pr s.found.nowFrame true u))) ∧
  (∀ (p q : Part) (pr : Proposal) (f : Nat) (waits : Prop), p.profile.deferral ≠ none → p.profile.proposal = some pr →
    q = p.settleCandidate.settleFolds →
    (waits ↔ q.classifier.dip ≠ none ∨ q.classifier.swell ≠ none ∨ q.classifier.interruption ≠ none ∨ q.rvc.mode = .candidate ∨
      q.journal.state = .blocked ∨
      (q.journal.state = .erasing ∧ (q.profile.inForce.enrolled ≠ pr.contents.enrolled ∨
        q.profile.inForce.retention ≠ pr.contents.retention))) →
    (waits → p.boundaryAdoption f = q) ∧ (¬ waits → q.adoptedAs pr f false (p.boundaryAdoption f))) ∧
  (∀ (p : Part) (f : Nat), p.profile.deferral = none ∨ p.profile.proposal = none → p.boundaryAdoption f = p) ∧
  (∀ (p : Part) (h : OpenHalf) (f : Nat) (c : Closure), ∃ q : Part, p.boundary h f c = q.boundaryAdoption f ∧ q.profile = p.profile ∧
    q.engine.last.map (fun vs => vs.result.boundary) = some f) ∧
  (∀ (p : Part) (x : Tri Sample) (sub : Bool) (h : OpenHalf), p.tracker.openHalf = some h →
    64 ≤ p.receiver.frameIndex - h.start → (crossings p.profile.inForce x p.tracker.arm).get p.tracker.active = true →
    ∃ q : Part, p.track x sub = q.boundaryAdoption p.receiver.frameIndex ∧ q.profile = p.profile) ∧
  ∀ (s : State) (p : Part) (h : OpenHalf), s.alive = true → p = s.entered → p.tracker.openHalf = some h →
    (p.tracker.mode = .locked → 128 ≤ p.receiver.frameIndex - h.start →
      exec .forcedBoundary s = .next (s.leaves (p.boundary h p.receiver.frameIndex .forced))) ∧
    (p.tracker.mode = .freeRunning → p.profile.inForce.freeRunLength ≤ p.receiver.frameIndex - h.start →
      exec .freeRunBoundary s = .next (s.leaves (p.boundary h p.receiver.frameIndex .freeRun)))

/-- A full slot: the chain of an open event goes on in the lowest FREE slot while its allowance lasts, else its filling ends: every slot of
the chain HELD for the capture hold, the CAPTURE record handed on. A HELD chain frees when a frame at or past its expiry has been
delivered (R107, R109, R111). That CAPTURE_EXPIRY before the expiry changes nothing is the MODEL's choice, log entry 3. -/
def Obligations.FullSlotsExtendOrEndAndHeldChainsExpire : Prop :=
  ∀ (s : State) (n : BitVec 2) (c : CapSlot) (p : Part), s.alive = true → p = s.entered → p.capture.slot n.toNat = some c →
    (c.held = false → c.remaining = 0 → c.next = none →
      ∀ goesOn, goesOn = (c.trigger ≠ .manual ∧ p.classifier.holdsChain c.serial = true ∧
        p.capture.chainLength c.serial < 1 + c.allowance) →
      (goesOn → ∀ j, p.capture.freeSlot = some j →
        exec (.slotFull n) s = .next (s.leaves { p with capture := { p.capture with
          slots := (p.capture.slots.set n.toNat (some { c with next := some j })).set j
            (some { c with preCount := 0, frames := [], remaining := 4096, next := none }) } })) ∧
      (¬ goesOn ∨ p.capture.freeSlot = none →
        ∀ ended, ended = { p.capture with slots := p.capture.slots.map (fun x =>
            if hasSerial c.serial x then x.map (fun y => { y with
              held := true, holdStart := p.nowFrame
              holdLength := p.profile.inForce.capHold.toNat * 36864000 }) else x) } →
        exec (.slotFull n) s = .next (s.leaves (match ended.record c.serial with
          | some r => { p with capture := ended }.handRecord (p.buildRec .recorder p.nowFrame (.capture r))
          | none => { p with capture := ended })))) ∧
    (c.held = true → p.receiver.delivered = true → p.failing = false →
      (p.receiver.frameIndex < c.holdStart + c.holdLength → exec (.captureExpiry n) s = .next (s.leaves p)) ∧
      (c.holdStart + c.holdLength ≤ p.receiver.frameIndex →
        exec (.captureExpiry n) s = .next (s.leaves { p with capture := { p.capture with
          slots := p.capture.slots.map (fun x => if hasSerial c.serial x then none else x) } })))

/-! ## The array and the journal -/

/-- A record program that agrees commits the record: its bytes in the array, its sequence number the newest, its place in the sector
table, the notices it brings, what it adds to each tally by its selection, and the read bursts. One that differs leaves the slot dirty and
the record in hand; the fourth failure in a row brings FAULTED (R135, R136, R137, R187, R194). After the last slot the open sector is used
up, whichever came (R138), and after the last sequence number the journal is FAULTED with SEQUENCES_EXHAUSTED (R133). What a fault leaves is
`faultedAs`: held Releases answered JOURNAL_FAULT, waiting PROFILE records withheld, an overdue forced adoption taken (R144, R165, R166, R180).
That the sequences are looked at before the used-up sector is the MODEL's choice, log entry 8; in `faultedAs`, so is the mark of a dropped
party, log entry 18, the answer's two marks are its reading, log entry 30, and the adoption's readings are log entries 5, 8, 29 and 43. -/
def Obligations.ARecordProgramCommitsOrFails : Prop :=
  ∀ (s : State) (r : Rec) (j : Journal) (sec : Sector) (added : Selection → Nat) (committed failed : Part), s.alive = true →
    s.found.array.op = some .recordProgram → s.found.commit.inHand = some r → j = s.found.journal → sec = j.sector j.openSector →
    (∀ sel, added sel = match r.payload with
      | .event e => if (sel = .dips ∧ e.subType = .dip) ∨ (sel = .swells ∧ e.subType = .swell) ∨
          (sel = .interruptions ∧ e.subType = .interruption) ∨ (sel = .rvcs ∧ e.subType = .rvc) ∨
          (sel = .capturesRefused ∧ e.flags.captureRefused = true) then 1 else 0
      | .burst b => if (sel = .dips ∧ b.type = .dip) ∨ (sel = .swells ∧ b.type = .swell) ∨ (sel = .rvcs ∧ b.type = .rvc) ∨
          sel = .foldedEvents then b.summary.count else if sel = .bursts then 1 else 0
      | .overflow o => if sel = .recordsWithheld
          then o.restart + o.supplyFail + o.profile + o.event + o.burst + o.capture + o.acqGap + o.tracking else 0
      | .interval i => if sel = .recordsWithheld then i.withheld.getD 0 else 0
      | _ => 0) →
    committed = Part.askBursts { s.found with
      array := { s.found.array with op := none }
      commit := { s.found.commit with inHand := none }
      journal := { j with
        sectors := j.sectors.set j.openSector { sec with
          valid := sec.valid ++ [⟨j.writeSlot, j.nextSequence, secondsField r.seconds⟩] }
        newest := some j.nextSequence, writeSlot := j.writeSlot + 1, failureCount := 0 }
      ports := s.found.ports.map (fun t =>
        let u := match r.payload with
          | .event _ => t.raise .eventRecorded s.found.receiver.epoch s.found.nowFrame (.number j.nextSequence)
          | .capture c => t.raise .captureReady s.found.receiver.epoch s.found.nowFrame (.number c.serial)
          | .interval i => t.raise .intervalClosed s.found.receiver.epoch s.found.nowFrame (.number i.index)
          | _ => t
        { u with
          tallyA := { t.tallyA with value := t.tallyA.value + BitVec.ofNat 32 (added t.tallyA.selection) }
          tallyB := { t.tallyB with value := t.tallyB.value + BitVec.ofNat 32 (added t.tallyB.selection) }
          tallyC := { t.tallyC with value := t.tallyC.value + BitVec.ofNat 32 (added t.tallyC.selection) } }) } →
    failed = { s.found with
      array := { s.found.array with op := none }
      freeCount := s.found.freeCount + 1
      journal := { j with
        sectors := j.sectors.set j.openSector { sec with dirty := sec.dirty ++ [j.writeSlot] }
        writeSlot := j.writeSlot + 1, failureCount := j.failureCount + 1 } } →
    (j.nextSequence < 4294967294 →
      exec (.recordProgramComplete true) s = .next (State.finish { s with
        memory := Memory.program s.memory j.openSector j.writeSlot (r.encode j.nextSequence)
        part := if j.writeSlot < 63 then committed else committed.usedUp })) ∧
    (j.nextSequence = 4294967294 → ∃ t, committed.faultedAs .sequencesExhausted t ∧
      exec (.recordProgramComplete true) s = .next (State.finish { s with
        memory := Memory.program s.memory j.openSector j.writeSlot (r.encode 4294967294), part := t })) ∧
    (j.newest ≠ some 4294967294 → j.failureCount < 3 →
      exec (.recordProgramComplete false) s = .next (State.finish { s with
        memory := Memory.garble s.memory j.openSector j.writeSlot s.found.freeCount (r.encode j.nextSequence)
        part := if j.writeSlot < 63 then failed else failed.usedUp })) ∧
    (j.newest ≠ some 4294967294 → 3 ≤ j.failureCount → ∃ t, failed.faultedAs .programFailures t ∧
      exec (.recordProgramComplete false) s = .next (State.finish { s with
        memory := Memory.garble s.memory j.openSector j.writeSlot s.found.freeCount (r.encode j.nextSequence), part := t }))

/-- What a program that differs leaves reads back neither as the bytes intended nor as an erase leaves them, and nothing outside those
bytes changes (R135, R136). That the slot is never left as an erase leaves it, and that nothing beyond the bytes changes, is the MODEL's
choice, log entry 6. -/
def Obligations.AFailedProgramIsNeitherIntendedNorErased : Prop :=
  ∀ (m : Memory) (n k free : Nat) (bs : List Byte), Memory.wf m = true → 5 ≤ bs.length →
    (∃ i, i < bs.length ∧ i ≠ 4 ∧ bs[i]? ≠ some 0xFF#8) →
    Memory.readRange (Memory.garble m n k free bs) (slotAddress n k) bs.length ≠ bs ∧
    Memory.readRange (Memory.garble m n k free bs) (slotAddress n k) bs.length ≠ List.replicate bs.length 0xFF#8 ∧
    ∀ a, a < slotAddress n k ∨ slotAddress n k + bs.length ≤ a → Memory.read (Memory.garble m n k free bs) a = Memory.read m a

/-- The tail: the first sector after the open one, in ring order, that holds a valid record, else the open sector; its first sequence is the
oldest retained; a spare is an ERASED sector after the open one (R138, R139, R152). The tail evaluated: with no spare and the journal WRITING or BLOCKED, a tail that is not the open sector and whose every valid record
is below the mark of every enrolled party or past the retention age calls for an erase; otherwise a used-up open sector brings BLOCKED
and its notice. A used-up open sector that has a spare is FULL and the spare is OPEN (R138, R139, R140, R143). -/
def Obligations.TheTailIsEvaluatedForReclaim : Prop :=
  (∀ (j : Journal) (after : Nat → Nat), (∀ k, after k = (j.openSector + 1 + k) % 128) →
    (j.spare = true ↔ (j.sector (after 0)).state = .erased) ∧
    (∀ k, k < 128 → (j.sector (after k)).valid ≠ [] → (∀ i, i < k → (j.sector (after i)).valid = []) → j.tail = after k) ∧
    ((∀ n, n < 128 → (j.sector n).valid = []) → j.tail = j.openSector) ∧
    (∀ r rest, (j.sector j.tail).valid = r :: rest → j.oldest = r.seq) ∧
    (j.newest = none → (j.sector j.tail).valid = [] → j.oldest = 0)) ∧
  ∀ (p : Part) (reclaimable : Prop),
    (reclaimable ↔ p.journal.tail ≠ p.journal.openSector ∧ ∀ r ∈ (p.journal.sector p.journal.tail).valid,
      (∀ q, p.profile.inForce.isEnrolled q = true → ∃ m, p.journal.mark q = some m ∧ r.seq < m) ∨
      r.seconds + p.profile.inForce.retention.toNat * 86400 ≤ p.nowSeconds) →
    (p.journal.spare = true ∨ p.journal.state = .starting ∨ p.journal.state = .erasing ∨ p.journal.state = .faulted →
      p.evaluateTail = p) ∧
    (p.journal.spare = false → p.journal.state = .writing ∨ p.journal.state = .blocked →
      (reclaimable → p.evaluateTail = { p with journal := { p.journal with state := .erasing } }) ∧
      (¬ reclaimable → p.journal.writeSlot < 64 ∨ p.journal.state = .blocked → p.evaluateTail = p) ∧
      (¬ reclaimable → 64 ≤ p.journal.writeSlot → p.journal.state = .writing → p.evaluateTail = { p with
        journal := { p.journal with state := .blocked }
        ports := p.ports.map (fun t => t.raise .journalBlocked p.receiver.epoch p.nowFrame .blocked) })) ∧
    (p.journal.spare = true → ∀ next, next = (p.journal.openSector + 1) % 128 →
      p.usedUp = Part.evaluateTail { p with journal := { p.journal with
        sectors := (p.journal.sectors.set p.journal.openSector { p.journal.sector p.journal.openSector with state := .full }).set next
          ⟨.isOpen, [], []⟩
        openSector := next, writeSlot := 0, state := .writing } }) ∧
    (p.journal.spare = false → p.usedUp = p.evaluateTail)

/-- An erase completed: the sector's bytes as an erase leaves them and its entry ERASED, each enrolled party's mark below the new oldest
retained lifted to it with its notice, the journal WRITING, then a forced adoption that waited, then the writer moving on when the open sector is used up (R141, R142, R165).
What such an adoption leaves is `adoptedAs`. That it falls between the marks and the writer is the MODEL's reading, log entry 15; in
`adoptedAs`, so are the fields the monitor holds outside CANDIDATE, log entry 29, and what an empty fold summary holds, the interval's record
before the tail's evaluation and the withdrawal of an erase called for under the old profile are its choices, log entries 5, 8 and 43. -/
def Obligations.AnEraseLiftsMarksAndResumesWriting : Prop :=
  ∀ (s : State) (n : Nat) (j : Journal) (o : Nat) (done : Part), s.alive = true → s.found.array.op = some (.erase n) →
    j = { s.found.journal with sectors := s.found.journal.sectors.set n ⟨.erased, [], []⟩ } → o = j.oldest →
    done = { s.found with
      array := { s.found.array with op := none }
      journal := { j with
        state := .writing
        markSupply := j.markSupply.map (fun m => if m < o then o else m)
        markPremises := j.markPremises.map (fun m => if m < o then o else m) }
      ports := ⟨
        (if j.markSupply.any (fun m => decide (m < o))
          then s.found.ports.supply.raise .recordsExpired s.found.receiver.epoch s.found.nowFrame (.number o) else s.found.ports.supply),
        (if j.markPremises.any (fun m => decide (m < o))
          then s.found.ports.premises.raise .recordsExpired s.found.receiver.epoch s.found.nowFrame (.number o)
          else s.found.ports.premises),
        s.found.ports.field⟩ } →
    (s.found.profile.proposal = none ∨ (∀ d, s.found.profile.deferral = some d → s.found.localTime < d.start + 60000) →
      exec .sectorEraseComplete s = .next (State.finish { s with
        memory := Memory.erase s.memory n, part := if j.writeSlot < 64 then done else done.usedUp })) ∧
    (∀ d pr, s.found.profile.deferral = some d → s.found.profile.proposal = some pr → d.start + 60000 ≤ s.found.localTime →
      ∃ u, done.adoptedAs pr s.found.nowFrame true u ∧ exec .sectorEraseComplete s = .next (State.finish { s with
        memory := Memory.erase s.memory n, part := if j.writeSlot < 64 then u else u.usedUp }))

/-- A settings program that agrees makes its entry current and carries out what waited for it: a PROFILE record is handed over, a mark
comes into force as the larger and its Release is answered, and the tail is evaluated when the entry is a Release's and not when an
adoption added it. One that differs is retried in the next slot; the fourth failure in a row brings FAULTED, with what `faultedAs` says of it
(R136, R137, R140, R144, R145, R148, R149, R165, R166, R180). That a Release whose party was dropped meanwhile is answered OK with a free mark
and its tail evaluation made all the same, and that the previous mark of the answer is the one that stood when the request was taken, are
the MODEL's choices, log entries 18 and 44; that a JOURNAL_FAULT answer carries the mark twice is its reading, log entry 30, and so are the
readings of the adoption in `faultedAs`, log entries 5, 8, 29 and 43. -/
def Obligations.ASettingsProgramBringsItsEntryIntoForce : Prop :=
  ∀ (s : State) (e : PendingSetting) (rest : List PendingSetting) (j : Journal), s.alive = true →
    s.found.array.op = some .settingsProgram → s.found.journal.pendingSettings = e :: rest →
    j = { s.found.journal with
      settingsSlot := s.found.journal.settingsSlot + 1, nextSettings := s.found.journal.nextSettings + 1, failureCount := 0
      pendingSettings := rest } →
    (∀ m, m = Memory.program s.memory s.found.journal.settingsActive s.found.journal.settingsSlot
        (e.setting.encode s.found.journal.nextSettings) →
      (∀ number contents, e.setting = .profile number contents → ∀ p, p = { s.found with
          array := { s.found.array with op := none }, journal := { j with curProfile := some e.setting } } →
        exec (.settingsProgramComplete true) s = .next (State.finish { s with
          memory := m, part := match e.record with | some r => p.handRecord r | none => p })) ∧
      (∀ number base, e.setting = .epoch number base → e.record = none →
        exec (.settingsProgramComplete true) s = .next (State.finish { s with memory := m, part := { s.found with
          array := { s.found.array with op := none }, journal := { j with curEpoch := some e.setting } } })) ∧
      (∀ (q : Party) (v now : Nat) (k : Journal) (after : Part → Part), e.setting = .mark q v →
        (match s.found.journal.mark q with
          | some old => now = max v old ∧ k = (j.setCurMark q (some (.mark q v))).setMark q (some now)
          | none => now = Config.droppedMark s.found.freeCount ∧ k = j.setCurMark q (some (.mark q v))) →
        (∀ p, after p = if e.release then p.evaluateTail else p) →
        (∀ tag prev abandoned, e.answers = true →
          (s.found.ports.get q).inProgress = some ⟨tag, .release prev, abandoned⟩ →
          exec (.settingsProgramComplete true) s = .next (State.finish { s with memory := m, part := after { s.found with
            array := { s.found.array with op := none }
            journal := k
            ports := s.found.ports.set q { s.found.ports.get q with
              inProgress := none, ready := true
              response := if abandoned then (s.found.ports.get q).response
                else some ⟨tag, .ok, .release prev now⟩ } } })) ∧
        (e.answers = false →
          exec (.settingsProgramComplete true) s = .next (State.finish { s with memory := m, part := after { s.found with
            array := { s.found.array with op := none }, journal := k } })))) ∧
    (s.found.journal.failureCount < 3 →
      exec (.settingsProgramComplete false) s = .next (State.finish { s with
        memory := Memory.garble s.memory s.found.journal.settingsActive s.found.journal.settingsSlot s.found.freeCount
          (e.setting.encode s.found.journal.nextSettings)
        part := { s.found with
          array := { s.found.array with op := none }, freeCount := s.found.freeCount + 1
          journal := { s.found.journal with
            settingsSlot := s.found.journal.settingsSlot + 1, failureCount := s.found.journal.failureCount + 1 } } })) ∧
    (3 ≤ s.found.journal.failureCount → ∃ t, Part.faultedAs { s.found with
        array := { s.found.array with op := none }, freeCount := s.found.freeCount + 1
        journal := { s.found.journal with
          settingsSlot := s.found.journal.settingsSlot + 1, failureCount := s.found.journal.failureCount + 1 } } .programFailures t ∧
      exec (.settingsProgramComplete false) s = .next (State.finish { s with
        memory := Memory.garble s.memory s.found.journal.settingsActive s.found.journal.settingsSlot s.found.freeCount
          (e.setting.encode s.found.journal.nextSettings)
        part := t }))

/-- One copy of a compaction (`copyDone`): one that verifies is the current entry of its kind, and the entry that called for the compaction
then leaves the settings work and brings what waited for it, its mark in force, its Release answered, the tail evaluated, or its PROFILE record
handed over; one that differs is retried in the next slot with its sequence, the fourth failure in a row bringing FAULTED; one that uses the
last settings sequence while copies are left brings FAULTED at once, both sectors left as they stand (R136, R137, R140, R144, R148, R150,
R165, R166, R180). SETTINGS_PROGRAM_COMPLETE completes one copy, COMPACTION_COMPLETE the copies left with their outcomes and then the erase, the
other sector active from its slot on: the MODEL's reading, log entry 35. In what an entry brings, a dropped party's mark and evaluation and the
previous mark are its choices, log entries 18 and 44; in `faultedAs`, a JOURNAL_FAULT answer's two marks are its reading, log entry 30, and the adoption's readings are log
entries 5, 8, 29 and 43. -/
def Obligations.ACompactionMovesTheSettings : Prop :=
  (∀ (s : State) (e : Setting) (trigger : Bool) (rest : List (Setting × Bool)) (slot other : Nat) (j k : Journal) (b u : Part),
    s.part.array.op = some .compaction → j = s.part.journal → j.compaction = some ⟨(e, trigger) :: rest, slot⟩ →
    j.nextSettings ≤ 4294967294 → other = (if j.settingsActive = 128 then 129 else 128) →
    k = (match e with
      | .profile _ _ => { j with curProfile := some e }
      | .epoch _ _ => { j with curEpoch := some e }
      | .mark q _ => j.setCurMark q (some e)) →
    b = { s.part with journal := { k with
      compaction := some ⟨rest, slot + 1⟩, nextSettings := j.nextSettings + 1, failureCount := 0 } } →
    ((trigger = false ∧ u = b) ∨ ∃ x more, trigger = true ∧ j.pendingSettings = x :: more ∧
      u = Part.brought { b with journal := { b.journal with pendingSettings := more } } x) →
    (rest = [] ∨ j.nextSettings < 4294967294 → s.copyDone true = { s with
      memory := Memory.program s.memory other slot (e.encode j.nextSettings), part := u }) ∧
    (rest ≠ [] → j.nextSettings = 4294967294 → ∃ t, u.faultedAs .sequencesExhausted t ∧ s.copyDone true = { s with
      memory := Memory.program s.memory other slot (e.encode 4294967294), part := t }) ∧
    ∀ failed : Part, failed = { s.part with
        freeCount := s.part.freeCount + 1
        journal := { j with compaction := some ⟨(e, trigger) :: rest, slot + 1⟩, failureCount := j.failureCount + 1 } } →
      (j.failureCount < 3 → s.copyDone false = { s with
        memory := Memory.garble s.memory other slot s.part.freeCount (e.encode j.nextSettings), part := failed }) ∧
      (3 ≤ j.failureCount → ∃ t, failed.faultedAs .programFailures t ∧ s.copyDone false = { s with
        memory := Memory.garble s.memory other slot s.part.freeCount (e.encode j.nextSettings), part := t })) ∧
  (∀ (s : State) (agrees : Bool), s.part.array.op ≠ some .compaction ∨ (∃ slot, s.part.journal.compaction = some ⟨[], slot⟩) →
    s.copyDone agrees = s) ∧
  (∀ (s begun : State), s.alive = true → begun = { s with part := s.found } → s.found.array.op = some .compaction →
    (∀ agrees, exec (.settingsProgramComplete agrees) s = .next (begun.copyDone agrees).finish) ∧
    ∀ (outcomes : List Bool) (ended : State), ended = (List.range 16).foldl (fun x i => x.copyDone (outcomes.getD i true)) begun →
      (ended.part.array.op ≠ some .compaction → exec (.compactionComplete outcomes) s = .next ended.finish) ∧
      ∀ slot, ended.part.array.op = some .compaction → ended.part.journal.compaction = some ⟨[], slot⟩ →
        exec (.compactionComplete outcomes) s = .next (State.finish { ended with
          memory := Memory.erase ended.memory ended.part.journal.settingsActive
          part := { ended.part with
            array := { ended.part.array with op := none }
            journal := { ended.part.journal with
              settingsActive := if ended.part.journal.settingsActive = 128 then 129 else 128
              settingsSlot := slot, compaction := none } } })) ∧
  (∀ (s : State) (copies : List (Setting × Bool)) (slot other : Nat), s.alive = true → s.recovering = false →
    s.found.array.op = some .compaction → s.found.journal.compaction = some ⟨copies, slot⟩ → copies.length ≤ 4 →
    slot + copies.length < 64 → s.found.journal.nextSettings + copies.length ≤ 4294967295 →
    other = (if s.found.journal.settingsActive = 128 then 129 else 128) →
    ∃ t, exec (.compactionComplete []) s = .next t ∧
      t.memory = Memory.erase (copies.zipIdx.foldl (fun m x =>
        Memory.program m other (slot + x.2) (x.1.1.encode (s.found.journal.nextSettings + x.2))) s.memory)
        s.found.journal.settingsActive ∧
      t.part.journal.settingsActive = other ∧ t.part.journal.settingsSlot = slot + copies.length ∧
      t.part.journal.nextSettings = s.found.journal.nextSettings + copies.length ∧ t.part.journal.compaction = none ∧
      t.part.array.op ≠ some .compaction ∧
      t.part.journal.newest = s.found.journal.newest ∧ t.part.receiver = s.found.receiver ∧ t.pins = s.pins) ∧
  ∀ (s : State) (e : Setting) (trigger : Bool) (next : Setting × Bool) (rest : List (Setting × Bool)) (slot other : Nat),
    s.alive = true → s.recovering = false → s.found.array.op = some .compaction →
    s.found.journal.compaction = some ⟨(e, trigger) :: next :: rest, slot⟩ → s.found.journal.nextSettings = 4294967294 →
    other = (if s.found.journal.settingsActive = 128 then 129 else 128) →
    ∃ t, exec (.settingsProgramComplete true) s = .next t ∧
      t.memory = Memory.program s.memory other slot (e.encode 4294967294) ∧ t.part.journal.state = .faulted ∧
      t.part.journal.faultCause = some .sequencesExhausted ∧ t.part.journal.pendingSettings = [] ∧
      t.part.journal.compaction = none ∧ t.part.array.op ≠ some .compaction ∧
      t.part.journal.settingsActive = s.found.journal.settingsActive ∧ t.pins = s.pins

/-- A burst landed: dropped when marked for discard, else taken when it begins at the record asked for, else the stream is overtaken;
then a held Read Next is answered, or its cursor moves up to the oldest retained and it asks again, and the next burst is asked for when
R177's condition holds (R177, R178, R179). The records of a burst are at most four valid ones, ascending from the later of its start and the
oldest retained to the newest committed, each as it is stored, dirty slots passed over, where the retained ones carry consecutive numbers
(R133, R146). That a held Read Next asks again whenever its buffer is empty, overtaken cleared, is the MODEL's
choice where R179 and R177 meet, log entry 39. -/
def Obligations.AReadBurstLands : Prop :=
  (∀ (s : State) (q : Party) (start : Nat) (discard : Bool) (found : List BufRec), s.alive = true →
    s.found.array.op = some (.burst q) → (s.found.ports.get q).burst = .inFlight start discard →
    found = burstRecords s.memory s.found.journal start →
    ((s.found.ports.get q).inProgress = none →
      exec .readBurstLands s = .next (s.leaves (Part.askBurst { s.found with
        array := { s.found.array with op := none }
        ports := s.found.ports.set q { s.found.ports.get q with
          burst := .absent
          buffer := if discard = false ∧ found.head?.map BufRec.seq = some start
            then (s.found.ports.get q).buffer ++ found else (s.found.ports.get q).buffer
          overtaken := if discard = false ∧ found ≠ [] ∧ found.head?.map BufRec.seq ≠ some start
            then true else (s.found.ports.get q).overtaken } } q))) ∧
    (∀ tag count skipped abandoned taken rest,
      (s.found.ports.get q).inProgress = some ⟨tag, .readNext count skipped, abandoned⟩ →
      discard = false → (s.found.ports.get q).buffer = [] → found.head?.map BufRec.seq = some start →
      takeFitting count recordRoom found = (taken, rest) →
      exec .readBurstLands s = .next (s.leaves (Part.askBurst { s.found with
        array := { s.found.array with op := none }
        ports := s.found.ports.set q { s.found.ports.get q with
          burst := .absent, buffer := rest, cursor := (s.found.ports.get q).cursor + taken.length
          inProgress := none, ready := true
          response := if abandoned then (s.found.ports.get q).response
            else some ⟨tag, .ok, .records skipped (taken.map BufRec.bytes)⟩ } } q))) ∧
    (∀ tag count skipped abandoned c, (s.found.ports.get q).inProgress = some ⟨tag, .readNext count skipped, abandoned⟩ →
      discard = true ∨ found.head?.map BufRec.seq ≠ some start → (s.found.ports.get q).buffer = [] →
      c = max (s.found.ports.get q).cursor s.found.journal.oldest →
      ((∀ n, s.found.journal.newest = some n → n < c) →
        exec .readBurstLands s = .next (s.leaves (Part.askBurst { s.found with
          array := { s.found.array with op := none }
          ports := s.found.ports.set q { s.found.ports.get q with
            burst := .absent, overtaken := false, cursor := c, inProgress := none, ready := true
            response := if abandoned then (s.found.ports.get q).response
              else some ⟨tag, .caughtUp, .records (skipped + (c - (s.found.ports.get q).cursor)) []⟩ } } q))) ∧
      (∀ n, s.found.journal.newest = some n → c ≤ n →
        exec .readBurstLands s = .next (s.leaves (Part.askBurst { s.found with
          array := { s.found.array with op := none }
          ports := s.found.ports.set q { s.found.ports.get q with
            burst := .absent, overtaken := false, cursor := c
            inProgress := some ⟨tag, .readNext count (skipped + (c - (s.found.ports.get q).cursor)), abandoned⟩ } } q))))) ∧
  (∀ (m : Memory) (j : Journal) (start first newest : Nat) (retained : List (Nat × Stored)) (found : List BufRec),
    retained = (List.range 128).flatMap (fun k => (j.sector ((j.openSector + 1 + k) % 128)).valid.map
      (fun x => ((j.openSector + 1 + k) % 128, x))) →
    retained.map (fun x => x.2.seq) = (List.range (newest + 1 - first)).map (fun i => first + i) →
    found = burstRecords m j start →
    found.map BufRec.seq = (List.range (min 4 (newest + 1 - max start first))).map (fun i => max start first + i) ∧
    ∀ b ∈ found, ∃ n x, (n, x) ∈ retained ∧ x.seq = b.seq ∧ ∀ r : Rec, r.payload.encode.length ≤ 106 →
      Memory.readRange m (slotAddress n x.slot) (r.encode x.seq).length = r.encode x.seq → b.bytes = r.encode x.seq) ∧
  ∀ (p : Part) (q : Party),
    (p.askBurst q = { p with ports := p.ports.set q { p.ports.get q with burst := .standing } } ∧
      (p.ports.get q).streaming = true ∧ (p.ports.get q).burst = .absent ∧ (p.ports.get q).overtaken = false ∧
      (p.ports.get q).buffer.length ≤ 4 ∧ p.isStarting = false ∧
      ∃ n, p.journal.newest = some n ∧ (p.ports.get q).cursor + (p.ports.get q).buffer.length ≤ n) ∨
    (p.askBurst q = p ∧ ((p.ports.get q).streaming = false ∨ (p.ports.get q).burst ≠ .absent ∨ (p.ports.get q).overtaken = true ∨
      4 < (p.ports.get q).buffer.length ∨ p.isStarting = true ∨
      ∀ n, p.journal.newest = some n → n < (p.ports.get q).cursor + (p.ports.get q).buffer.length))

/-! ## Power, restart and supply failure -/

/-- Power, the RESET input and what they leave: every operation cut off, every block at its reset values with the restart's cause; of the
array only the bytes of the operation in progress may change, which for a program are those of its item and not the rest of the slot, by
the MODEL's choice, log entry 6 (R3, R12, R34, R58, R67, R78, R90, R101, R116, R127, R171,
R188, R193, R198). That POWER_ON at a part that has power is a power cycle which cuts the operation in progress is the MODEL's choice, log
entry 16; so is what the scan is to set, such as the cursors, standing at a fixed value until then, log entry 5. -/
def Obligations.ARestartCutsOffEverything : Prop :=
  (∀ s : State,
    exec .powerOn s = .next { s with
      pins := { s.pins with power := true }, memory := if s.alive then s.cutMemory else s.memory, recovering := false
      part := resetPart .powerOn (s.part.freeCount + 1) } ∧
    (s.alive = true → exec .resetAsserted s = .next { s with
      pins := { s.pins with resetHigh := false }, memory := s.cutMemory, recovering := false
      part := resetPart .resetPin (s.part.freeCount + 1) }) ∧
    exec .resetReleased s = .next { s with pins := { s.pins with resetHigh := true } } ∧
    (s.pins.power = true → exec .powerEnds s = .next { s with
      pins := { s.pins with power := false }, memory := if s.alive then s.cutMemory else s.memory, recovering := false
      part := resetPart .powerOn (s.part.freeCount + 1) }) ∧
    (s.part.isStarting = false →
      (s.part.array.op = none ∨ (∃ q, s.part.array.op = some (.burst q)) → s.cutMemory = s.memory) ∧
      ∀ a, s.cutMemory.read a = Memory.read s.memory a ∨
        (∃ r n, s.part.array.op = some .recordProgram ∧ s.part.commit.inHand = some r ∧
          n = slotAddress s.part.journal.openSector s.part.journal.writeSlot ∧
          n ≤ a ∧ a < n + (r.encode s.part.journal.nextSequence).length) ∨
        (∃ e rest n, s.part.array.op = some .settingsProgram ∧ s.part.journal.pendingSettings = e :: rest ∧
          n = slotAddress s.part.journal.settingsActive s.part.journal.settingsSlot ∧
          n ≤ a ∧ a < n + (e.setting.encode s.part.journal.nextSettings).length) ∨
        (∃ n, s.part.array.op = some (.erase n) ∧ slotAddress n 0 ≤ a ∧ a < slotAddress (n + 1) 0) ∨
        (∃ c, s.part.array.op = some .compaction ∧ s.part.journal.compaction = some c ∧
          ((c.copies = [] ∧ slotAddress s.part.journal.settingsActive 0 ≤ a ∧ a < slotAddress (s.part.journal.settingsActive + 1) 0) ∨
            ∃ x rest n, c.copies = x :: rest ∧ n = slotAddress s.part.journal.otherSettings c.slot ∧ n ≤ a ∧
              a < n + (x.1.encode s.part.journal.nextSettings).length)))) ∧
  ∀ (cause : RestartCause) (n : Nat) (p : Part), p = resetPart cause n →
    (p.receiver.acq = .absent ∧ p.receiver.lastSeq = none ∧ p.receiver.lastSamples = none ∧ p.receiver.frameIndex = 0 ∧
      p.receiver.delivered = false ∧ p.receiver.checkFailed = 0 ∧ p.receiver.duplicates = 0 ∧ p.receiver.substituted = 0) ∧
    (p.tracker.mode = .resync ∧ p.tracker.openHalf = none ∧ p.tracker.framesWaited = 0 ∧ p.tracker.ret = .none ∧
      p.tracker.arm = Tri.all .none ∧ p.tracker.crossed = ChanSet.empty ∧ p.tracker.lengthRun = 0 ∧ p.tracker.refRun = 0) ∧
    (p.engine.openCount = 0 ∧ p.engine.openSum = Tri.all 0 ∧ p.engine.prevValid = Tri.all false ∧ p.engine.last = none) ∧
    (p.classifier.dip = none ∧ p.classifier.swell = none ∧ p.classifier.interruption = none ∧ p.classifier.nextEvent = 1 ∧
      ∀ c, p.classifier.flags.get c = ⟨false, false, false⟩) ∧
    (p.rvc.mode = .steadyWait ∧ p.rvc.window = []) ∧
    (∀ t, (p.folds.get t).isOpen = false ∧ (p.folds.get t).runCount = 0 ∧ (p.folds.get t).sinceEnd = none) ∧
    (p.aggregator.index = 0 ∧ p.aggregator.start = 0 ∧ p.aggregator.halfCycles = 0 ∧ p.aggregator.flags.short = true) ∧
    (p.recurrence.entries = List.replicate 64 none ∧ p.recurrence.revision = 0) ∧
    (p.capture.ring = [] ∧ p.capture.slots = List.replicate 4 none ∧ p.capture.nextSerial = 1 ∧ p.capture.resumed = none) ∧
    (p.commit.priority = [] ∧ p.commit.bulk = [] ∧ p.commit.credit = 0 ∧ p.commit.overflow = none ∧ p.commit.withheld = 0 ∧
      p.commit.inHand = none) ∧
    (p.array.op = none ∧ p.array.choice = none ∧ p.array.chosenRelease = none ∧ p.array.lastGranted = .port .field) ∧
    (p.journal.state = .starting ∧ p.journal.pendingSettings = [] ∧ p.journal.failureCount = 0 ∧ p.journal.faultCause = none) ∧
    (p.profile.proposal = none ∧ p.profile.lastProposal = 0 ∧ p.profile.deferral = none) ∧
    (∀ q, (p.ports.get q).inProgress = none ∧ (p.ports.get q).buffer = [] ∧ (p.ports.get q).streaming = false ∧
      (p.ports.get q).burst = .absent ∧ (p.ports.get q).overtaken = false ∧ (p.ports.get q).cursor = 0 ∧
      (p.ports.get q).note = .idle ∧ (p.ports.get q).notices = [] ∧ (p.ports.get q).masked = 0x0800#16 ∧
      (p.ports.get q).lowLevel = 0#16 ∧ (p.ports.get q).attention = false ∧ (p.ports.get q).tallyA = ⟨.dips, 0⟩ ∧
      (p.ports.get q).tallyB = ⟨.interruptions, 0⟩ ∧ (p.ports.get q).tallyC = ⟨.recordsWithheld, 0⟩) ∧
    p.restartCause = cause ∧ p.failing = false

/-- The start-up scan ends a restart: the array repaired, written ring sectors that hold nothing retained erased, what lies current in the
other settings sector copied into the active one and the other erased; the new epoch and its base, the profile in force, the marks clamped, the cursors
set, the settings entries waiting and the RESTART record, with the PROFILE record behind it where one is called for, in PRIORITY; a
SUPPLY_FAIL held high is taken; exhausted sequence numbers fault the journal (R133, R148, R151 to R154, R171, R195, R199, R200). MODEL's
choices and readings: the scan's repairs whole and successful (log entry 14), the default flag (20), the RESTART record before the
sequence fault (24), an undue scan changing nothing (3), a settings copy without a sequence left unmade (24). -/
def Obligations.TheScanEndsInANewEpoch : Prop :=
  (∀ (m : Memory) (z : SettingsScan) (copies made : List Setting), Memory.wf m = true → z = scanSettings m →
    copies = (([z.profile, z.epoch, z.markSupply, z.markPremises].filterMap id).filter (fun e => decide (e.sector ≠ z.active))).map
      SettingsEntry.setting →
    made = copies.take (4294967295 - z.next) → z.slot + made.length ≤ 64 →
    (∀ a, a < 1048576 → Memory.read (repaired m) a =
      if a / 8192 ∈ (scanRing m).erases then 0xFF#8 else Memory.read m a) ∧
    ((∀ n k, n = 128 ∨ n = 129 → k < 64 → slotErased m n k = true ∨ readSetting (Memory.readSlot m n k) = none) →
      ∀ a, 1048576 ≤ a → a < 1064960 → Memory.read (repaired m) a = 0xFF#8) ∧
    ((∃ n k, (n = 128 ∨ n = 129) ∧ k < 64 ∧ slotErased m n k = false ∧ readSetting (Memory.readSlot m n k) ≠ none) →
      ∀ a, (a / 8192 = z.active → Memory.read (repaired m) a = Memory.read (made.zipIdx.foldl (fun x e =>
          Memory.program x z.active (z.slot + e.2) (e.1.encode (z.next + e.2))) m) a) ∧
        (a / 8192 = z.other → Memory.read (repaired m) a = if made = copies then 0xFF#8 else Memory.read m a))) ∧
  ∀ (s : State) (cause : RestartCause) (n now : Nat) (held : PerParty Port) (z : SettingsScan) (r : RingScan), s.alive = true → s.recovering = false →
    z = scanSettings s.memory → r = scanRing s.memory →
    (s.part.isStarting = false → exec .startUpScanComplete s = .next (s.leaves s.found)) ∧
    (s.part = { resetPart cause n with localTime := now, ports := held } → (∀ q, (held.get q).note = .idle) →
      ∃ t, exec .startUpScanComplete s = .next t ∧ t.memory = repaired s.memory ∧ t.pins = s.pins ∧ t.pending = s.pending ∧
      t.part.failing = s.pins.supplyFail ∧ t.part.localTime = now ∧
      ∀ (epoch base : Nat) (pr : Profile),
        epoch = min 65535 (max (epochNumberOf z.epoch) ((r.newest.map (fun x => x.found.epoch)).getD 0) + 1) →
        base = max ((r.newest.map (fun x => x.found.seconds + 1)).getD 0) (epochBaseOf z.epoch) →
        pr = profileOf z.profile →
        t.part.receiver = { resetReceiver with
          epoch := epoch, failureFrame := if s.pins.supplyFail then some 0 else none } ∧
        t.part.journal.epochBase = base ∧ t.part.profile.inForce = pr ∧ t.part.profile.number = profileNumberOf z.profile ∧
        t.part.journal.newest = r.newest.map (fun x => x.found.seq) ∧ t.part.tracker = resetTracker pr ∧
        t.part.engine = resetEngine pr ∧
        t.part.journal.state ≠ .starting ∧
        (r.writeSlot < 64 → t.part.journal.openSector = r.openSector ∧ t.part.journal.writeSlot = r.writeSlot ∧
          (t.part.journal.state ≠ .erasing → t.part.journal.sectors = r.sectors)) ∧
        (t.part.journal.settingsActive = z.active ∧ t.part.journal.settingsSlot = z.slot + z.copies.length ∧
          t.part.journal.nextSettings = z.next + z.copies.length) ∧
        ((r.newest.map (fun x => x.found.seq) = some 4294967294 ∨ (z.toCopy ≠ [] ∧ 4294967295 < z.next + z.toCopy.length)) →
          t.part.journal.state = .faulted ∧ t.part.journal.faultCause = some .sequencesExhausted) ∧
        (t.part.journal.state = .writing → t.part.journal.writeSlot < 64) ∧
        (t.part.journal.state = .blocked → 64 ≤ t.part.journal.writeSlot ∧ t.part.journal.spare = false) ∧
        (∀ (q : Party) (e : Option SettingsEntry), (q = .supply ∧ e = z.markSupply) ∨ (q = .premises ∧ e = z.markPremises) →
          t.part.journal.mark q = if pr.isEnrolled q
            then some (min (max (markOf e) t.part.journal.oldest) t.part.journal.nextSequence) else none) ∧
        (∀ q, (t.part.ports.get q).cursor = if pr.isEnrolled q
          then (t.part.journal.mark q).getD t.part.journal.oldest else t.part.journal.oldest) ∧
        (s.pins.supplyFail = false →
          t.part.commit.priority = {
              origin := .recorder, flags := ⟨true, false, false⟩, epoch := epoch, frame := 0, seconds := base
              payload := .restart cause t.part.journal.newest t.part.profile.number } ::
            (if z.profile = none ∨ r.newest = none then [{
              origin := .recorder, flags := ⟨true, false, false⟩, epoch := epoch, frame := 0, seconds := base
              payload := .profile t.part.profile.number none ⟨false, false, false⟩ false (decide (pr = Profile.default)) pr }]
            else []) ∧
          (t.part.journal.state ≠ .faulted → t.part.journal.pendingSettings =
            (if z.profile = none then [⟨.profile 1 Profile.default, false, false, none⟩] else []) ++
              [⟨.epoch epoch base, false, false, none⟩])))

/-- SUPPLY-FAIL taken leaves what `failedAs` says: the failure frame fixed, the open events closed with their EVENT records and lookups, the
BURST records of the folds, every chain HELD with its CAPTURE record, the interval *short*, its record, its ageing and the tail's evaluation,
the proposal discarded and the SUPPLY_FAIL record, handed on in that order (R9, R54, R64, R74, R89, R92, R96, R114, R140, R170, R195). SUPPLY_FAIL
low brings a restart once the queues, the settings work and the array are drained, and high again cancels the wait (R195, R197); the restart
at once in BLOCKED or FAULTED is part of `finish`. The wait and its end at the row SUPPLY_RECOVERED are the MODEL's reading, log entry 32; that
an undue SUPPLY_RECOVERED changes nothing is its choice, log entry 3. In `failedAs`, the monitor left as it is is its reading, log entry 29;
an empty fold summary, a whole chain's remaining count and the interval's record before the ageing and the evaluation are its choices, log
entries 5, 37 and 8. -/
def Obligations.SupplyFailureClosesAndRecovers : Prop :=
  ∀ s : State, s.alive = true →
    (s.found.isStarting = false → s.found.failing = false →
      ∃ t, s.found.failedAs t ∧ exec .supplyFailTaken s = .next (State.finish { s with
        pins := { s.pins with supplyFail := true }, part := t })) ∧
    (s.found.isStarting = true ∨ s.found.failing = true →
      exec .supplyFailTaken s = .next (State.finish { s with
        pins := { s.pins with supplyFail := true }, part := s.found
        recovering := if s.found.isStarting then s.recovering else false })) ∧
    exec .supplyFailReleased s = .next (State.finish { s with
      pins := { s.pins with supplyFail := false }, part := s.found
      recovering := if s.found.failing then true else s.recovering }) ∧
    (s.recovering = true → s.found.isStarting = false →
      s.found.commit.inHand = none → s.found.commit.priority = [] → s.found.commit.bulk = [] →
      s.found.journal.pendingSettings = [] → s.found.array.op = none →
      exec .supplyRecovered s = .next { s with
        recovering := false, part := resetPart .supplyRecovered (s.found.freeCount + 1) }) ∧
    (s.recovering = false ∨ s.found.commit.inHand ≠ none ∨ s.found.commit.priority ≠ [] ∨ s.found.commit.bulk ≠ [] ∨
        s.found.journal.pendingSettings ≠ [] ∨ s.found.array.op ≠ none →
      exec .supplyRecovered s = .next (s.leaves s.found))

/-! ## Requests -/

/-- A complete request frame that fails a check is answered with its link error, in the order of the checks, and counted by a tally C that
selects LINK_ERRORS; at a transfer's end a response not clocked out is discarded, a request in progress is abandoned, and an incomplete
request is counted (R172, R173, R194). That a faulty frame abandons the request in progress, and how TRANSFER_END is read, is the MODEL's
reading, log entry 10. -/
def Obligations.FaultyFramesAndEndedTransfers : Prop :=
  ∀ (s : State) (q : Party) (bs : List Byte) (t counted : Port), s.alive = true → t = s.found.ports.get q →
    counted = { t with tallyC := { t.tallyC with
      value := if t.tallyC.selection = .linkErrors then t.tallyC.value + 1 else t.tallyC.value } } →
    (∀ (kind length : Nat) (st : Status), kind = (bs.getD 0 0#8).toNat → length = (bs.getD 2 0#8).toNat →
      (3 ≤ bs.length ∧ 248 < length ∧ st = .badFrame) ∨
      (length ≤ 248 ∧ length + 5 ≤ bs.length ∧ checkHolds (bs.take (length + 5)) = false ∧ st = .linkCrc) ∨
      (length ≤ 248 ∧ length + 5 ≤ bs.length ∧ checkHolds (bs.take (length + 5)) = true ∧ (kind = 0 ∨ 23 < kind) ∧
        st = .unknownRequest) ∨
      (length ≤ 248 ∧ length + 5 ≤ bs.length ∧ checkHolds (bs.take (length + 5)) = true ∧ requestSize kind length = some false ∧
        st = .badFrame) →
      exec (.requestFrameError q bs) s = .next (s.leaves { s.found with ports := s.found.ports.set q { counted with
        inProgress := t.inProgress.map (fun r => { r with abandoned := true })
        response := some ⟨bs.getD 1 0#8, st, .none⟩, ready := true } })) ∧
    (t.response ≠ none ∨ (∃ r, t.inProgress = some r ∧ r.abandoned = false) →
      exec (.transferEnd q bs) s = .next (s.leaves { s.found with ports := s.found.ports.set q { t with
        response := none, inProgress := t.inProgress.map (fun r => { r with abandoned := true }) } })) ∧
    (t.response = none → (∀ r, t.inProgress = some r → r.abandoned = true) →
      (bs = [] → exec (.transferEnd q bs) s = .next (s.leaves s.found)) ∧
      (bs ≠ [] → bs.length < 3 ∨ ((bs.getD 2 0#8).toNat ≤ 248 ∧ bs.length < (bs.getD 2 0#8).toNat + 5) →
        exec (.transferEnd q bs) s = .next (s.leaves { s.found with ports := s.found.ports.set q counted })))

/-- Identify, Read Live, Read Profile, Read Tallies and Read Recurrence answer from the part as found and change nothing else (R99, R169,
R174, R175, R193). What each section of Read Live holds: the receiver, the tracker, the last values and the open interval (R2, R3, R18, R28,
R88); the flags of the channels in use, each OPEN machine with its own number or, when folded, its fold's burst number, the monitor by its
state and the folds (R56, R58, R77); the slots, the ring's count and the next serial (R113); the commit path, the journal and the profile
unit (R129, R147, R169); the port with its note, notices, masks and tallies (R188). The fields of the OUT_OF_RANGE answer of Read Recurrence
are the MODEL's reading, log entry 31; that no mean is shown for a channel not in use, what an empty fold summary shows and that of a BUSY
array the requester is given and the operation is not are its choices, log entries 12, 5 and 45. -/
def Obligations.ReadsAnswerAndChangeNothing : Prop :=
  ∀ (s : State) (q : Party) (tag : Byte),
    (s.alive = true → (s.found.ports.get q).inProgress = none →
      exec (.identify q tag) s = .next (s.answers q tag .ok (.identify {
        partCode := 0x7A40#16, revision := 1, unitSerial := Config.unitSerial, journal := s.found.journal.state
        epoch := if s.found.journal.state = .starting then none else some s.found.receiver.epoch
        newest := if s.found.journal.state = .starting then none else s.found.journal.newest
        profileNumber := if s.found.journal.state = .starting then none else some s.found.profile.number }))) ∧
    (s.serves q →
      (∀ (f : Part) (t : Port) (shown : Option Nat → OpenEvent → EventView) (means : (Chan → Nat) → Tri (Option Nat))
        (waits : Party → Bool) (marks : Party → Bool) (selector : Byte) (v : LiveView), f = s.found → t = f.ports.get q →
        (∀ burst e, shown burst e = ⟨if e.folded then burst else e.number, e⟩) →
        (∀ m, means m = Tri.build (fun c => if f.profile.inForce.inUse.get c then some (m c) else none)) →
        (∀ x, waits x = match (f.ports.get x).note with
          | .awaiting _ _ => true
          | .idle | .assembling _ _ => false) →
        (∀ x, marks x = f.journal.pendingSettings.any (fun e => isMarkOf x e.setting)) →
        (selector = 1#8 ∧ v = .measurement {
          acq := f.receiver.acq, checkFailed := f.receiver.checkFailed, duplicates := f.receiver.duplicates
          substituted := f.receiver.substituted, mode := f.tracker.mode, active := f.tracker.active, lastCrossed := f.tracker.lastCrossed
          lastValues := f.engine.last.map (fun vs => {
            boundary := vs.result.boundary, forced := vs.result.forced, freeRunning := vs.result.freeRunning
            substituted := vs.result.substituted, locked := vs.result.locked, closure := vs.result.closure
            values := Tri.build (fun c => (vs.entries.get c).map (fun x => (x.u, x.overRange))) })
          index := f.aggregator.index, start := f.aggregator.start, stop := f.aggregator.stop
          halfCycles := f.aggregator.halfCycles, flags := f.aggregator.flags, low := f.aggregator.low, high := f.aggregator.high
          lockedH := f.aggregator.lockedH, lockedN := f.aggregator.lockedN }) ∨
        (selector = 2#8 ∧ v = .events {
          flags := Tri.build (fun c => if f.profile.inForce.inUse.get c then some (f.classifier.flags.get c) else none)
          dip := f.classifier.dip.map (shown f.folds.dip.burst), swell := f.classifier.swell.map (shown f.folds.swell.burst)
          interruption := f.classifier.interruption.map (shown none), nextEvent := f.classifier.nextEvent
          rvc := match f.rvc.mode with
            | .steadyWait => .steadyWait f.rvc.window.length
            | .steady => .steady (means (fun c => (f.rvc.window.map (fun e => e.u.get c)).sum / f.profile.inForce.rvcWindow.toNat))
            | .candidate => .candidate f.rvc.start f.rvc.count (means f.rvc.preMean.get) f.rvc.uMax f.rvc.uMaxChan f.rvc.affected
          folds := f.folds }) ∨
        (selector = 3#8 ∧ v = .capture {
          slots := f.capture.slots.map (fun x => x.map (fun c => {
            held := c.held, serial := c.serial, trigger := c.trigger, event := c.event, origin := c.origin
            triggerFrame := c.triggerFrame, preCount := c.preCount, filled := c.frames.length, remaining := c.remaining
            next := c.next, truncated := c.truncated, released := c.released
            hold := if c.held then some (c.holdStart, c.holdStart + c.holdLength) else none }))
          ringCount := f.capture.ring.length, nextSerial := f.capture.nextSerial }) ∨
        (selector = 4#8 ∧ v = .journal {
          priority := f.commit.priority.length, portClass := f.commit.priority.countP (fun r => r.payload.isPortClass)
          bulk := f.commit.bulk.length, credit := f.commit.credit, weight := f.profile.inForce.weight, overflow := f.commit.overflow
          withheld := f.commit.withheld, waitingNotes := ⟨waits .supply, waits .premises, waits .field⟩
          inHand := f.commit.inHand.map (fun r => r.payload.kind), arrayBusy := f.array.op.isSome
          requester := f.array.op.map (fun o => match o with
            | .burst x => .port x
            | .recordProgram | .settingsProgram | .compaction | .erase _ => .writer)
          state := f.journal.state, faultCause := f.journal.faultCause, openSector := f.journal.openSector
          writeSlot := f.journal.writeSlot, spare := f.journal.spare, tail := f.journal.tail, oldest := f.journal.oldest
          newest := f.journal.newest, markSupply := f.journal.markSupply, markPremises := f.journal.markPremises
          failureCount := f.journal.failureCount, settingsActive := f.journal.settingsActive
          settingsSlot := f.journal.settingsSlot
          settingsPending := decide (f.journal.pendingSettings ≠ [] ∨ f.journal.compaction ≠ none)
          marksPending := ⟨marks .supply, marks .premises, marks .field⟩, profileNumber := f.profile.number
          proposal := f.profile.proposal.map (fun x => (x.number, x.proposer)), adoption := f.profile.deferral }) ∨
        (selector = 5#8 ∧ v = .port {
          cursor := t.cursor, buffered := t.buffer.length, streaming := t.streaming, burst := t.burst, overtaken := t.overtaken
          note := match t.note with
            | .idle => .idle
            | .assembling c _ => .assembling c.topic c.text.length c.truncated
            | .awaiting c _ => .awaiting c.topic c.text.length c.truncated
          notices := t.notices, masked := t.masked, lowLevel := t.lowLevel, attention := t.attention
          tallyA := t.tallyA, tallyB := t.tallyB, tallyC := t.tallyC }) →
        exec (.readLive q tag selector) s = .next (s.answers q tag .ok (.live f.receiver.epoch f.nowFrame v))) ∧
      (∀ selector : Byte, selector = 0#8 ∨ 5 < selector.toNat →
        exec (.readLive q tag selector) s = .next (s.answers q tag .outOfRange .none)) ∧
      exec (.readProfile q tag 0#8) s =
        .next (s.answers q tag .ok (.profileInForce s.found.profile.number s.found.profile.inForce)) ∧
      (s.found.profile.proposal = none → exec (.readProfile q tag 1#8) s = .next (s.answers q tag .noProposal .none)) ∧
      (∀ pr, s.found.profile.proposal = some pr →
        exec (.readProfile q tag 1#8) s = .next (s.answers q tag .ok (.proposal pr.number pr.proposer pr.contents pr.agreeing
          (if pr.consented
            then .consented s.found.profile.deferral
              (s.found.localTime - ((s.found.profile.deferral.map Deferral.start).getD s.found.localTime))
              (s.found.deferConditions pr.contents)
            else .waiting (pr.expiry - s.found.localTime))))) ∧
      (∀ selector : Byte, 1 < selector.toNat →
        exec (.readProfile q tag selector) s = .next (s.answers q tag .outOfRange .none)) ∧
      exec (.readTallies q tag) s = .next (s.answers q tag .ok (.tallies (s.found.ports.get q).tallyA (s.found.ports.get q).tallyB
        (s.found.ports.get q).tallyC)) ∧
      (∀ (start : Byte) (items : List RecurItem), start.toNat ≤ 63 →
        items = s.found.recurrence.entries.zipIdx.filterMap
          (fun x => if start.toNat ≤ x.2 then x.1.map (fun e => ⟨x.2, e⟩) else none) →
        exec (.readRecurrence q tag start) s = .next (s.answers q tag .ok (.recurrence s.found.receiver.epoch s.found.nowFrame
          s.found.profile.number s.found.recurrence.revision (s.found.recurrence.entries.countP Option.isSome) (items.take 16)
          (if 16 < items.length then items[15]?.map (fun x => x.number + 1) else none)))) ∧
      (∀ start : Byte, 63 < start.toNat →
        exec (.readRecurrence q tag start) s = .next (s.answers q tag .outOfRange (.recurrence s.found.receiver.epoch
          s.found.nowFrame s.found.profile.number s.found.recurrence.revision
          (s.found.recurrence.entries.countP Option.isSome) [] none))))

/-- Seek sets the cursor, empties the buffer, clears overtaken, drops a burst, sets streaming by its option and then asks for a burst;
Read Next answers what is buffered, answers CAUGHT_UP, or is held until a burst lands (R176, R177, R179). That a Seek to MARK with an option
out of range from a party not enrolled is answered OUT_OF_RANGE is the MODEL's choice, log entry 46. -/
def Obligations.SeekAndReadNextServeTheStream : Prop :=
  ∀ (s : State) (q : Party) (tag : Byte) (t : Port) (j : Journal), s.serves q → t = s.found.ports.get q → j = s.found.journal →
    (∀ (target option : Byte) (v : BitVec 32) (st : Status) (c : Nat), option.toNat ≤ 1 →
      (target = 0#8 ∧ c = max j.oldest (min v.toNat j.nextSequence) ∧ st = (if c = v.toNat then .ok else .clamped)) ∨
      (target = 1#8 ∧ c = j.oldest ∧ st = .ok) ∨ (target = 2#8 ∧ c = j.newest.getD 0 ∧ st = .ok) ∨
      (target = 3#8 ∧ s.found.profile.inForce.isEnrolled q = true ∧ j.mark q = some c ∧ st = .ok) →
      exec (.seek q tag target v option) s = .next (s.leaves (Part.askBurst { s.found with
        ports := s.found.ports.set q { t with
          cursor := c, buffer := [], streaming := decide (option = 1#8), overtaken := false
          burst := match t.burst with | .inFlight b _ => .inFlight b true | _ => .absent
          response := some ⟨tag, st, .stream c j.oldest j.newest⟩, ready := true } } q))) ∧
    (∀ (option : Byte) (v : BitVec 32), option.toNat ≤ 1 → s.found.profile.inForce.isEnrolled q = false →
      exec (.seek q tag 3#8 v option) s = .next (s.answers q tag .notEnrolled .none)) ∧
    (∀ (target option : Byte) (v : BitVec 32), 3 < target.toNat ∨ 1 < option.toNat →
      exec (.seek q tag target v option) s = .next (s.answers q tag .outOfRange .none)) ∧
    (∀ count : Byte, count = 0#8 ∨ 4 < count.toNat →
      exec (.readNext q tag count) s = .next (s.answers q tag .outOfRange .none)) ∧
    (∀ (count : Byte), 1 ≤ count.toNat → count.toNat ≤ 4 → t.buffer ≠ [] →
      ∃ taken rest, t.buffer = taken ++ rest ∧ taken.length ≤ count.toNat ∧
        (taken.map (fun b => b.bytes.length)).sum ≤ recordRoom ∧
        (rest = [] ∨ taken.length = count.toNat ∨
          ∃ b more, rest = b :: more ∧ recordRoom < (taken.map (fun b => b.bytes.length)).sum + b.bytes.length) ∧
        exec (.readNext q tag count) s = .next (s.leaves (Part.askBurst { s.found with
          ports := s.found.ports.set q { t with
            streaming := true, buffer := rest, cursor := t.cursor + taken.length
            response := some ⟨tag, .ok, .records 0 (taken.map BufRec.bytes)⟩, ready := true } } q))) ∧
    (∀ (count : Byte) (c : Nat) (moved : Port), 1 ≤ count.toNat → count.toNat ≤ 4 → t.buffer = [] → c = max t.cursor j.oldest →
      moved = { t with streaming := true, cursor := c, overtaken := if t.cursor < j.oldest then false else t.overtaken } →
      ((∀ n, j.newest = some n → n < c) →
        exec (.readNext q tag count) s = .next (s.leaves (Part.askBurst { s.found with
          ports := s.found.ports.set q { moved with
            response := some ⟨tag, .caughtUp, .records (c - t.cursor) []⟩, ready := true } } q))) ∧
      (∀ n, j.newest = some n → c ≤ n →
        exec (.readNext q tag count) s = .next (s.leaves (Part.askBurst { s.found with
          ports := s.found.ports.set q { moved with
            response := none, ready := false
            inProgress := some ⟨tag, .readNext count.toNat (c - t.cursor), false⟩ } } q))))

/-- Release asks for a mark clamped between the party's mark and the newest committed + 1, enters its RELEASE record and its MARK entry and
is held for it; Mark Time enters its record by the port share (R120, R121, R144, R180, R181). That they come before a waiting note that
is due (`asked`, `leavesAsked`) is the MODEL's choice, log entry 36; so is that the held Release keeps the mark as it stands now for its answer,
log entry 44. -/
def Obligations.ReleaseAndMarkTimeEnterTheirRecords : Prop :=
  ∀ (s : State) (q : Party) (tag : Byte), s.servesAsked q →
    (∀ v : BitVec 32, s.asked.profile.inForce.isEnrolled q = false →
      exec (.release q tag v) s = .next (s.answersAsked q tag .notEnrolled .none)) ∧
    (∀ (v : BitVec 32) (current m : Nat), s.asked.profile.inForce.isEnrolled q = true → s.asked.journal.mark q = some current →
      m = max current (min v.toNat s.asked.journal.nextSequence) →
      (s.asked.offerRelease q m current = none →
        exec (.release q tag v) s = .next (s.answersAsked q tag .queueFull .none)) ∧
      (∀ p, s.asked.offerRelease q m current = some p →
        exec (.release q tag v) s = .next (s.leavesAsked { s.asked with
          commit := p.commit
          array := p.array
          journal := { s.asked.journal with
            pendingSettings := s.asked.journal.pendingSettings ++ [⟨.mark q m, true, true, none⟩] }
          ports := s.asked.ports.set q { s.asked.ports.get q with
            response := none, inProgress := some ⟨tag, .release current, false⟩, ready := false } }))) ∧
    (∀ (stated : BitVec 64) (quality : Byte),
      (3 < quality.toNat → exec (.markTime q tag stated quality) s = .next (s.answersAsked q tag .outOfRange .none)) ∧
      (quality.toNat ≤ 3 → (16 ≤ s.asked.commit.priority.length ∨ s.asked.journal.state = .faulted) →
        exec (.markTime q tag stated quality) s = .next (s.answersAsked q tag .queueFull .none)) ∧
      (quality.toNat ≤ 3 → s.asked.commit.priority.length < 16 → s.asked.journal.state ≠ .faulted →
        exec (.markTime q tag stated quality) s = .next (s.leavesAsked { s.asked with
          commit := { s.asked.commit with priority := s.asked.commit.priority ++
            [s.asked.buildRec (.party q) s.asked.nowFrame (.timeMark stated quality)] }
          ports := s.asked.ports.set q { s.asked.ports.get q with
            response := some ⟨tag, .ok, .timeMark s.asked.receiver.epoch s.asked.nowFrame⟩, ready := true } })))

/-- Capture Now takes the lowest FREE slot with the newest frames of the ring before it, or is answered CAPTURE_BUSY; Read Capture answers
from a chain; Release Capture frees a HELD chain when every enrolled party has released it (R102, R105, R106, R110, R112). The fields in the
OUT_OF_RANGE answer of a HELD chain are the MODEL's reading, log entry 31; a FILLING slot's hold of 0 is its choice, log entry 42. -/
def Obligations.CaptureRequestsActOnTheSlots : Prop :=
  ∀ (s : State) (q : Party) (tag : Byte) (c : Capture) (pr : Profile), s.serves q → c = s.found.capture →
    pr = s.found.profile.inForce →
    (s.found.failing = false →
      (c.freeSlot = none → exec (.captureNow q tag) s = .next (s.answers q tag .captureBusy .none)) ∧
      (∀ i pre, c.freeSlot = some i → (∀ f ∈ c.ring, f.index ≤ s.found.nowFrame) →
        (s.found.receiver.delivered = true → ∀ a, c.resumed = some a → a ≤ s.found.nowFrame) →
        pre = min pr.capPre.toNat c.ring.length →
        exec (.captureNow q tag) s = .next (s.leaves { s.found with
          capture := { c with
            slots := c.slots.set i (some {
              held := false, serial := c.nextSerial, trigger := .manual, event := none, origin := .party q
              triggerFrame := s.found.nowFrame
              firstFrame := if s.found.receiver.delivered then s.found.nowFrame + 1 - pre else 0
              preCount := pre, frames := (c.ring.drop (c.ring.length - pre)).map RingFrame.content
              remaining := pr.capPre.toNat + pr.capPost.toNat - pre, allowance := pr.capExt.toNat
              target := pr.capPre.toNat + pr.capPost.toNat, preTrigger := pr.capPre.toNat, next := none
              truncated := false, released := ⟨false, false, false⟩, holdStart := 0, holdLength := 0 })
            nextSerial := if 4294967295 ≤ c.nextSerial then 1 else c.nextSerial + 1 }
          ports := s.found.ports.set q { s.found.ports.get q with
            response := some ⟨tag, .ok, .captureTaken c.nextSerial s.found.nowFrame i⟩, ready := true } }))) ∧
    (∀ (serial : BitVec 32) (offset : BitVec 16) (count : Byte),
      (count = 0#8 ∨ 64 < count.toNat →
        exec (.readCapture q tag serial offset count) s = .next (s.answers q tag .outOfRange .none)) ∧
      (1 ≤ count.toNat → count.toNat ≤ 64 →
        (c.chain serial.toNat = [] →
          exec (.readCapture q tag serial offset count) s = .next (s.answers q tag .captureGone .none)) ∧
        (∀ x rest frames, c.chain serial.toNat = x :: rest → frames = (x :: rest).flatMap CapSlot.frames →
          exec (.readCapture q tag serial offset count) s = .next (s.answers q tag
            (if x.held then (if frames.length ≤ offset.toNat then .outOfRange else .ok)
              else if frames.length - offset.toNat < count.toNat then .partialFill else .ok)
            (.capture {
              serial := serial.toNat, held := x.held, trigger := x.trigger, event := x.event, origin := x.origin
              triggerFrame := x.triggerFrame, firstFrame := x.firstFrame, preCount := x.preCount, framesHeld := frames.length
              slots := rest.length + 1, truncated := x.truncated } ((frames.drop offset.toNat).take count.toNat)))))) ∧
    (∀ serial : BitVec 32,
      (pr.isEnrolled q = false → exec (.releaseCapture q tag serial) s = .next (s.answers q tag .notEnrolled .none)) ∧
      (pr.isEnrolled q = true → c.chain serial.toNat = [] →
        exec (.releaseCapture q tag serial) s = .next (s.answers q tag .captureGone .none)) ∧
      (∀ x rest, pr.isEnrolled q = true → c.chain serial.toNat = x :: rest →
        (x.held = false → exec (.releaseCapture q tag serial) s = .next (s.answers q tag .captureBusy .none)) ∧
        (x.held = true → ∀ freed : Bool,
          (freed = true ↔ ∀ party, pr.isEnrolled party = true → party = q ∨ x.released.get party = true) →
          exec (.releaseCapture q tag serial) s = .next (s.leaves { s.found with
            capture := { c with slots := c.slots.map (fun y => if hasSerial serial.toNat y
              then (if freed then none else y.map (fun z => { z with released := z.released.set q true })) else y) }
            ports := s.found.ports.set q { s.found.ports.get q with
              response := some ⟨tag, .ok, .captureReleased freed⟩, ready := true } }))))

/-- Propose by its checks in their order, an invalid profile with the field and code that the statement on the profile checks pins; a
proposal taken draws the next number, replaces the party's own, and is consented at once by
FIELD or a lone enrolled party, else the other two ports are noticed (R158, R159, R162). -/
def Obligations.ProposeFillsTheSlot : Prop :=
  ∀ (s : State) (q : Party) (tag : Byte) (expiry : BitVec 16) (contents : Profile) (u : ProfileUnit), s.serves q →
    s.found.failing = false → u = s.found.profile →
    (u.deferral ≠ none → exec (.propose q tag expiry contents) s = .next (s.answers q tag .adopting .none)) ∧
    (u.deferral = none →
      (expiry.toNat < 10 ∨ 3600 < expiry.toNat →
        exec (.propose q tag expiry contents) s = .next (s.answers q tag .outOfRange .none)) ∧
      (10 ≤ expiry.toNat → expiry.toNat ≤ 3600 →
        (∀ index code, contents.failure = some (index, code) →
          exec (.propose q tag expiry contents) s = .next (s.answers q tag .invalidProfile (.invalidProfile index code))) ∧
        (contents.failure = none →
          (∀ other, u.proposal = some other → other.proposer ≠ q → exec (.propose q tag expiry contents) s =
            .next (s.answers q tag .proposalPending (.pendingProposal other.number other.proposer))) ∧
          ((∀ other, u.proposal = some other → other.proposer = q) → ∀ pr answered, pr = {
              number := u.lastProposal + 1, proposer := q, contents := contents
              expiry := s.found.localTime + expiry.toNat * 1000
              agreeing := (⟨false, false, false⟩ : PartySet).set q true, consented := false } →
            answered = s.found.ports.set q { s.found.ports.get q with
              response := some ⟨tag, .ok, .proposalNumber (u.lastProposal + 1)⟩, ready := true } →
            (q = .field ∨ (∀ party, u.inForce.isEnrolled party = true → party = q) →
              exec (.propose q tag expiry contents) s = .next (s.leaves { s.found with
                profile := { u with
                  lastProposal := u.lastProposal + 1, proposal := some { pr with consented := true }
                  deferral := some ⟨s.found.localTime, false⟩ }
                ports := answered })) ∧
            (q ≠ .field → (∃ party, u.inForce.isEnrolled party = true ∧ party ≠ q) →
              ∃ noticed, exec (.propose q tag expiry contents) s = .next (s.leaves { s.found with
                profile := { u with lastProposal := u.lastProposal + 1, proposal := some pr }, ports := noticed }) ∧
              noticed.get q = answered.get q ∧
              ∀ party, party ≠ q → noticed.get party = (answered.get party).raise .proposalPending s.found.receiver.epoch
                s.found.nowFrame (.number (u.lastProposal + 1).toNat))))))

/-- Concur joins the party to the agreeing set, and consent defers the adoption from now; Withdraw empties the slot for its proposer while
consent is not reached; a Propose whose proposer's agreement alone meets the rule reaches consent at once, and PROPOSAL_PENDING is then not raised (R160, R161,
R162). -/
def Obligations.ConcurAndWithdrawActOnThePendingProposal : Prop :=
  ∀ (s : State) (q : Party) (tag : Byte) (u : ProfileUnit), s.serves q → u = s.found.profile →
    (s.found.failing = false → ∀ number : Byte,
      (u.proposal = none → exec (.concur q tag number) s = .next (s.answers q tag .noProposal .none)) ∧
      (∀ pr, u.proposal = some pr → pr.number ≠ number →
        exec (.concur q tag number) s = .next (s.answers q tag .staleProposal (.proposalNumber pr.number))) ∧
      (∀ pr joined, u.proposal = some pr → pr.number = number → joined = pr.agreeing.set q true →
        ∀ reached : Bool, (reached = true ↔ pr.consented = false ∧
            (joined.get .field = true ∨ ∀ party, u.inForce.isEnrolled party = true → joined.get party = true)) →
        exec (.concur q tag number) s = .next (s.leaves { s.found with
          profile := { u with
            proposal := some { pr with agreeing := joined, consented := pr.consented || reached }
            deferral := if reached then some ⟨s.found.localTime, false⟩ else u.deferral }
          ports := s.found.ports.set q { s.found.ports.get q with
            response := some ⟨tag, .ok, .agreeing joined⟩, ready := true } }))) ∧
    (s.found.failing = false → u.deferral = none → ∀ (expiry : BitVec 16) (contents : Profile) (reached : Bool), 10 ≤ expiry.toNat →
      expiry.toNat ≤ 3600 → contents.failure = none → (∀ other, u.proposal = some other → other.proposer = q) →
      (reached = true ↔ q = .field ∨ ∀ party, u.inForce.isEnrolled party = true → party = q) →
      ∀ answered, answered = s.found.ports.set q { s.found.ports.get q with
        response := some ⟨tag, .ok, .proposalNumber (u.lastProposal + 1)⟩, ready := true } →
      ∃ noticed, exec (.propose q tag expiry contents) s = .next (s.leaves { s.found with
        profile := { u with
          lastProposal := u.lastProposal + 1
          proposal := some {
            number := u.lastProposal + 1, proposer := q, contents := contents, expiry := s.found.localTime + expiry.toNat * 1000
            agreeing := (⟨false, false, false⟩ : PartySet).set q true, consented := reached }
          deferral := if reached then some ⟨s.found.localTime, false⟩ else none }
        ports := noticed }) ∧
        noticed.get q = answered.get q ∧
        ∀ party, party ≠ q → noticed.get party = if reached then answered.get party
          else (answered.get party).raise .proposalPending s.found.receiver.epoch s.found.nowFrame
            (.number (u.lastProposal + 1).toNat)) ∧
    (u.proposal = none → exec (.withdraw q tag) s = .next (s.answers q tag .noProposal .none)) ∧
    (∀ pr, u.proposal = some pr →
      (pr.consented = true → exec (.withdraw q tag) s = .next (s.answers q tag .adopting .none)) ∧
      (pr.consented = false → pr.proposer ≠ q → exec (.withdraw q tag) s = .next (s.answers q tag .notProposer .none)) ∧
      (pr.consented = false → pr.proposer = q → exec (.withdraw q tag) s = .next (s.leaves { s.found with
        profile := { u with proposal := none }
        ports := s.found.ports.set q { s.found.ports.get q with response := some ⟨tag, .ok, .none⟩, ready := true } })))

/-- Note Begin, Note Text and Note End by the note's state: a fresh note, at most 96 characters kept, the NOTE record offered by the port
share (R120, R182, R183, R184). That Note Begin and Note End come before a waiting note that is due is the MODEL's choice, log entry 36. -/
def Obligations.NotesAreAssembledAndOffered : Prop :=
  (∀ (s : State) (q : Party) (tag : Byte) (t : Port), s.serves q → t = s.found.ports.get q →
    (t.note = .idle ∨ (∃ c r, t.note = .awaiting c r) →
      ∀ chars, exec (.noteText q tag chars) s = .next (s.answers q tag .noteIdle .none)) ∧
    (∀ c last chars cut, t.note = .assembling c last → cut = (c.truncated || decide (96 < c.text.length + chars.length)) →
      exec (.noteText q tag chars) s = .next (s.leaves { s.found with
        ports := s.found.ports.set q { t with
          note := .assembling { c with text := (c.text ++ chars).take 96, truncated := cut } s.found.localTime
          response := some ⟨tag, .ok, .noteHeld (min 96 (c.text.length + chars.length)) cut⟩, ready := true } }))) ∧
  ∀ (s : State) (q : Party) (tag : Byte) (t : Port) (room : Bool), s.servesAsked q → t = s.asked.ports.get q →
    room = (decide (s.asked.commit.priority.length < 16) && decide (s.asked.journal.state ≠ .faulted)) →
    (t.note = .idle ∨ (∃ c r, t.note = .awaiting c r) → exec (.noteEnd q tag) s = .next (s.answersAsked q tag .noteIdle .none)) ∧
    (∀ topic c r, t.note = .awaiting c r → exec (.noteBegin q tag topic) s = .next (s.answersAsked q tag .queueFull .none)) ∧
    (∀ topic, t.note = .idle → exec (.noteBegin q tag topic) s = .next (s.leavesAsked { s.asked with
      ports := s.asked.ports.set q { t with
        note := .assembling ⟨topic, [], s.asked.nowFrame, false⟩ s.asked.localTime
        response := some ⟨tag, .ok, .none⟩, ready := true } })) ∧
    (∀ c last, t.note = .assembling c last →
      (∀ topic, room = false → exec (.noteBegin q tag topic) s = .next (s.answersAsked q tag .queueFull .none)) ∧
      (∀ topic, room = true → exec (.noteBegin q tag topic) s = .next (s.leavesAsked { s.asked with
        commit := { s.asked.commit with priority := s.asked.commit.priority ++ [s.asked.buildRec (.party q) s.asked.nowFrame
          (.note c.topic c.beginFrame .superseded c.truncated c.text)] }
        ports := s.asked.ports.set q { t with
          note := .assembling ⟨topic, [], s.asked.nowFrame, false⟩ s.asked.localTime
          response := some ⟨tag, .ok, .none⟩, ready := true } })) ∧
      (room = true → exec (.noteEnd q tag) s = .next (s.leavesAsked { s.asked with
        commit := { s.asked.commit with priority := s.asked.commit.priority ++ [s.asked.buildRec (.party q) s.asked.nowFrame
          (.note c.topic c.beginFrame .ended c.truncated c.text)] }
        ports := s.asked.ports.set q { t with note := .idle, response := some ⟨tag, .ok, .none⟩, ready := true } })) ∧
      (room = false → exec (.noteEnd q tag) s = .next (s.leavesAsked { s.asked with
        ports := s.asked.ports.set q { t with
          note := .assembling c s.asked.localTime, response := some ⟨tag, .queueFull, .none⟩, ready := true } })))

/-- Next Notice clears and returns the highest-ranked pending notice; Acknowledge Attention lowers the line; Set Notice Mask sets masks and
levels of maskable kinds and raises the line for a pending kind it unmasks; Select Tally zeroes the tally it selects for
(R190, R191, R192, R193). An occurrence of a kind not pending becomes pending with count 1 and its frame and detail, asserting ATTENTION when
the kind is unmaskable or unmasked; one of a kind pending collapses, its count up to 65,535, its frame and detail taken, the line as it was
(R189, R191). -/
def Obligations.NoticeAndTallyRequests : Prop :=
  (∀ (t u : Port) (k : NoticeKind) (bit epoch frame : Nat) (d : Detail), u = t.raise k epoch frame d →
    bit = (match k with
      | .journalBlocked => 0 | .recordsExpired => 1 | .recordsWithheld => 2 | .eventRecorded => 3 | .captureReady => 4
      | .captureSlotsFull => 5 | .proposalPending => 6 | .profileAdopted => 7 | .proposalLapsed => 8
      | .recurrenceThreshold => 9 | .acquisitionLost => 10 | .intervalClosed => 11) →
    u = { t with notices := u.notices, attention := u.attention } ∧
    ((∀ n ∈ t.notices, n.kind ≠ k) → u.notices = t.notices ++ [⟨k, 1, epoch, frame, d⟩] ∧
      (u.attention = true ↔ t.attention = true ∨ bit < 3 ∨ t.masked.getLsbD bit = false)) ∧
    (∀ before after n, t.notices = before ++ n :: after → n.kind = k → (∀ x ∈ before ++ after, x.kind ≠ k) →
      u.notices = before ++ { n with count := min 65535 (n.count + 1), epoch := epoch, frame := frame, detail := d } :: after ∧
      u.attention = t.attention)) ∧
  ∀ (s : State) (q : Party) (tag : Byte) (t : Port), s.serves q → t = s.found.ports.get q →
    (t.notices = [] → exec (.nextNotice q tag) s = .next (s.answers q tag .ok (.notice none))) ∧
    (t.notices ≠ [] → ∀ rank : NoticeKind → Nat,
      (∀ k, rank k = if 4 ≤ k.number ∧ t.lowLevel.getLsbD (k.number - 1) = true then 16 + k.number else k.number) →
      ∃ n ∈ t.notices, (∀ m ∈ t.notices, rank n.kind ≤ rank m.kind) ∧
        exec (.nextNotice q tag) s = .next (s.leaves { s.found with ports := s.found.ports.set q { t with
          notices := t.notices.filter (fun m => decide (m.kind ≠ n.kind))
          response := some ⟨tag, .ok, .notice (some n)⟩, ready := true } })) ∧
    exec (.acknowledgeAttention q tag) s = .next (s.leaves { s.found with ports := s.found.ports.set q { t with
      attention := false, response := some ⟨tag, .ok, .none⟩, ready := true } }) ∧
    (∀ masks levels : BitVec 16,
      ((∀ i, masks.getLsbD i = true ∨ levels.getLsbD i = true → 3 ≤ i ∧ i ≤ 11) →
        exec (.setNoticeMask q tag masks levels) s = .next (s.leaves { s.found with ports := s.found.ports.set q { t with
          masked := masks, lowLevel := levels
          attention := t.attention || t.notices.any (fun n => decide (4 ≤ n.kind.number) && t.masked.getLsbD (n.kind.number - 1) &&
            !masks.getLsbD (n.kind.number - 1))
          response := some ⟨tag, .ok, .masks masks levels⟩, ready := true } })) ∧
      (∀ i, masks.getLsbD i = true ∨ levels.getLsbD i = true → (i < 3 ∨ 11 < i) →
        exec (.setNoticeMask q tag masks levels) s = .next (s.answers q tag .outOfRange .none))) ∧
    (∀ (tally selection : Byte) (a b c : Tally),
      (tally = 1#8 ∧ ((selection = 1#8 ∧ a = ⟨.dips, 0⟩) ∨ (selection = 2#8 ∧ a = ⟨.swells, 0⟩)) ∧ b = t.tallyB ∧ c = t.tallyC) ∨
      (tally = 2#8 ∧ ((selection = 3#8 ∧ b = ⟨.interruptions, 0⟩) ∨ (selection = 4#8 ∧ b = ⟨.rvcs, 0⟩) ∨
        (selection = 5#8 ∧ b = ⟨.bursts, 0⟩)) ∧ a = t.tallyA ∧ c = t.tallyC) ∨
      (tally = 3#8 ∧ ((selection = 6#8 ∧ c = ⟨.foldedEvents, 0⟩) ∨ (selection = 7#8 ∧ c = ⟨.capturesRefused, 0⟩) ∨
        (selection = 8#8 ∧ c = ⟨.recordsWithheld, 0⟩) ∨ (selection = 9#8 ∧ c = ⟨.linkErrors, 0⟩)) ∧ a = t.tallyA ∧ b = t.tallyB) →
      exec (.selectTally q tag tally selection) s = .next (s.leaves { s.found with ports := s.found.ports.set q { t with
        tallyA := a, tallyB := b, tallyC := c, response := some ⟨tag, .ok, .none⟩, ready := true } })) ∧
    (∀ tally selection : Byte,
      ¬ (tally = 1#8 ∧ (selection = 1#8 ∨ selection = 2#8)) →
      ¬ (tally = 2#8 ∧ (selection = 3#8 ∨ selection = 4#8 ∨ selection = 5#8)) →
      ¬ (tally = 3#8 ∧ (selection = 6#8 ∨ selection = 7#8 ∨ selection = 8#8 ∨ selection = 9#8)) →
      exec (.selectTally q tag tally selection) s = .next (s.answers q tag .outOfRange .none))

/-- Port Reset, taken even with a request in progress: the request dropped with its MARK entry kept, an assembling note closed, the stream
reset with the cursor at the party's mark or the oldest retained, notices, masks, ATTENTION and tallies at their reset values; the other
ports untouched (R120, R171, R185, R186). That it comes before a waiting note that is due is the MODEL's choice, log entry 36. -/
def Obligations.PortResetActsOnItsOwnPort : Prop :=
  ∀ (s : State) (q : Party) (tag : Byte) (t : Port) (c : Nat), s.alive = true → s.asked.isStarting = false →
    t = s.asked.ports.get q →
    c = (if s.asked.profile.inForce.isEnrolled q then (s.asked.journal.mark q).getD s.asked.journal.oldest
      else s.asked.journal.oldest) →
    ∀ (queue : List Rec) (note : Note) (view : NoteView),
      ((t.note = .idle ∧ queue = s.asked.commit.priority ∧ note = .idle ∧ view = .idle) ∨
        (∃ n r, t.note = .awaiting n r ∧ queue = s.asked.commit.priority ∧ note = .awaiting n r ∧
          view = .awaiting n.topic n.text.length n.truncated) ∨
        (∃ n last r, t.note = .assembling n last ∧
          r = s.asked.buildRec (.party q) s.asked.nowFrame (.note n.topic n.beginFrame .portReset n.truncated n.text) ∧
          ((s.asked.commit.priority.length < 16 ∧ s.asked.journal.state ≠ .faulted ∧ queue = s.asked.commit.priority ++ [r] ∧
              note = .idle ∧ view = .idle) ∨
            ((16 ≤ s.asked.commit.priority.length ∨ s.asked.journal.state = .faulted) ∧ queue = s.asked.commit.priority ∧
              note = .awaiting n r ∧ view = .awaiting n.topic n.text.length n.truncated)))) →
      exec (.portReset q tag) s = .next (s.leavesAsked { s.asked with
        commit := { s.asked.commit with priority := queue }
        journal := { s.asked.journal with
          pendingSettings := s.asked.journal.pendingSettings.map
            (fun e => if isMarkOf q e.setting then { e with answers := false } else e) }
        ports := s.asked.ports.set q { t with
          inProgress := none, response := some ⟨tag, .ok, .portReset c view⟩, ready := true, note := note
          cursor := c, buffer := [], streaming := false, overtaken := false
          burst := match t.burst with | .inFlight b _ => .inFlight b true | _ => .absent
          notices := [], masked := 0x0800#16, lowLevel := 0#16, attention := false
          tallyA := ⟨.dips, 0⟩, tallyB := ⟨.interruptions, 0⟩, tallyC := ⟨.recordsWithheld, 0⟩ } })

/-! ## The RVC monitor -/

/-- The RVC monitor at a value set. A dip or swell that opens, is open or ends empties the windows to STEADY_WAIT and discards a candidate;
a set with *no-value* enters no window and only counts in CANDIDATE (R59, R64). STEADY_WAIT slides and becomes STEADY when every window is
full and steady (R57, R60). In STEADY a deviation beyond the band begins a candidate with the pre-change means, the largest deviation on
its lowest-numbered channel, the affected channels and the start distance (R61, R70). CANDIDATE follows, and ends when its windows are full
and steady: folded into an OPEN fold, else recorded as an EVENT record under a drawn number, its run counted (R62, R63, R66, R68, R70,
R71). The fields the monitor holds outside CANDIDATE are the MODEL's reading, log entry 29; what an empty summary holds is its choice, log
entry 5. -/
def Obligations.TheRvcMonitorFollowsTheValues : Prop :=
  ∀ (p : Part) (vs : ValueSet) (o : Outcome) (w band : Nat), w = p.profile.inForce.rvcWindow.toNat → 1 ≤ w →
    band = p.engine.levels.rvcBand →
    (o.openedDipSwell = true ∨ o.openDipSwell = true ∨ o.endedDipSwell = true → p.rvcHandle vs o = { p with
      rvc := resetRvc
      folds := if p.rvc.mode = .candidate then { p.folds with rvc := { p.folds.rvc with startDistance := none } } else p.folds }) ∧
    (o.openedDipSwell = false → o.openDipSwell = false → o.endedDipSwell = false →
      ((∃ c, vs.inUse.get c = true ∧ vs.value c = none) → p.rvcHandle vs o =
        if p.rvc.mode = .candidate then { p with rvc := { p.rvc with
          count := p.rvc.count + 1
          flags := { p.rvc.flags with freeRunning := p.rvc.flags.freeRunning || vs.result.freeRunning } } } else p) ∧
      ((∃ c, vs.inUse.get c = true) → (∀ c, (vs.value c).isSome = vs.inUse.get c) →
        ∀ (u : Chan → Nat) (mean : List WindowEntry → Chan → Nat) (slid : List WindowEntry) (steady ranged : Bool),
          (∀ c, u c = (vs.value c).getD 0) → (∀ x c, mean x c = (x.map (fun e => e.u.get c)).sum / w) →
          slid = (if p.rvc.window.length < w then p.rvc.window else p.rvc.window.drop 1) ++
            [⟨⟨u .c1, u .c2, u .c3⟩, vs.result.start⟩] →
          (steady = true ↔ slid.length = w ∧
            ∀ c, vs.inUse.get c = true → ∀ e ∈ slid, absDiff (e.u.get c) (mean slid c) ≤ band) →
          (ranged = true ↔ ∃ c e, vs.entries.get c = some e ∧ vs.inUse.get c = true ∧ e.overRange = true) →
        (p.rvc.mode = .steadyWait → p.rvcHandle vs o =
          { p with rvc := { p.rvc with window := slid, mode := if steady then .steady else .steadyWait } }) ∧
        (p.rvc.mode = .steady → ∀ dev : Chan → Nat, (∀ c, dev c = absDiff (u c) (mean p.rvc.window c)) →
          ((∀ c, vs.inUse.get c = true → dev c ≤ band) → p.rvcHandle vs o = { p with rvc := { p.rvc with window := slid } }) ∧
          (∀ x, vs.inUse.get x = true → band < dev x → ∃ ch, vs.inUse.get ch = true ∧
            (∀ c, vs.inUse.get c = true → dev c ≤ dev ch ∧ (c.number < ch.number → dev c < dev ch)) ∧
            p.rvcHandle vs o = { p with
              rvc := {
                mode := .candidate, window := []
                preMean := ⟨mean p.rvc.window .c1, mean p.rvc.window .c2, mean p.rvc.window .c3⟩
                uMax := dev ch, uMaxChan := ch, start := vs.result.boundary, count := 0
                affected := Tri.build (fun c => vs.inUse.get c && decide (band < dev c))
                flags := ⟨false, ranged, vs.result.freeRunning⟩ }
              folds := { p.folds with rvc := { p.folds.rvc with startDistance := p.folds.rvc.sinceEnd } } })) ∧
        (p.rvc.mode = .candidate → ∀ dev : Chan → Nat, (∀ c, dev c = absDiff (u c) (p.rvc.preMean.get c)) →
          ∃ m ch, (((∀ c, vs.inUse.get c = true → dev c ≤ p.rvc.uMax) ∧ m = p.rvc.uMax ∧ ch = p.rvc.uMaxChan) ∨
              (vs.inUse.get ch = true ∧ m = dev ch ∧ p.rvc.uMax < m ∧
                ∀ c, vs.inUse.get c = true → dev c ≤ m ∧ (c.number < ch.number → dev c < m))) ∧
            ∀ r, r = { p.rvc with
                count := p.rvc.count + 1, uMax := m, uMaxChan := ch, window := slid
                affected := p.rvc.affected.union (Tri.build (fun c => vs.inUse.get c && decide (band < dev c)))
                flags := { p.rvc.flags with
                  overRange := p.rvc.flags.overRange || ranged
                  freeRunning := p.rvc.flags.freeRunning || vs.result.freeRunning } } →
            (steady = false → p.rvcHandle vs o = { p with rvc := r }) ∧
            (steady = true → ∀ (f : Fold) (number run : Nat) (opens : Bool), f = p.folds.rvc → number = p.classifier.nextEvent →
              run = (match f.startDistance with
                | some d => if d ≤ p.profile.inForce.burstSpacing.toNat then f.runCount + 1 else 1
                | none => 1) →
              (opens = true ↔ p.profile.inForce.burstRun.toNat ≤ run) →
              (f.isOpen = true → p.rvcHandle vs o = { p with
                rvc := { resetRvc with mode := .steady, window := slid }
                classifier := if f.burst = none
                  then { p.classifier with nextEvent := if 4294967295 ≤ number then 1 else number + 1 } else p.classifier
                folds := { p.folds with rvc := { f with
                  burst := some (f.burst.getD number), sinceEnd := some w, startDistance := none
                  summary := f.summary.merge .rvc ⟨r.start, slid.head?.map WindowEntry.start, r.count + 1 - w, m, ch, r.affected,
                    ⟨r.flags.spansGap, r.flags.overRange, r.flags.freeRunning, false, false⟩⟩ } } }) ∧
              (f.isOpen = false → ∃ us x, vs.inUse.get x = true ∧ us = absDiff (mean slid x) (p.rvc.preMean.get x) ∧
                (∀ c, vs.inUse.get c = true → absDiff (mean slid c) (p.rvc.preMean.get c) ≤ us) ∧
                p.rvcHandle vs o = Part.handRecord { p with
                    rvc := { resetRvc with mode := .steady, window := slid }
                    classifier := { p.classifier with nextEvent := if 4294967295 ≤ number then 1 else number + 1 }
                    folds := { p.folds with rvc := { f with
                      runCount := run, isOpen := opens, sinceEnd := some w, startDistance := none
                      burst := if opens then none else f.burst, summary := if opens then emptySummary else f.summary } } }
                  (p.buildRec .recorder vs.result.boundary (.event {
                    subType := .rvc, number := number, start := r.start, stop := slid.head?.map WindowEntry.start
                    halfCycles := r.count + 1 - w, extreme := m, extremeChan := ch, uss := some us, chans := r.affected
                    flags := ⟨r.flags.spansGap, r.flags.overRange, r.flags.freeRunning, false, false, false, false, false⟩
                    linked := none, serial := none, recurrence := none })))))))
end

