-- ==== Sys2Proof/Laws/Bytes.lean ====
section
/-! SUPPORT. Byte runs: their lengths, the numbers they spell, and the check value (R1). -/

namespace Sys2Proof

@[simp] theorem beBytes_length (k v : Nat) : (beBytes k v).length = k := by
  induction k with
  | zero => rfl
  | succ k ih => simp [beBytes, ih]

theorem beNat_append (xs ys : List Byte) : beNat (xs ++ ys) = beNat xs * 256 ^ ys.length + beNat ys := by
  have key : ∀ (l : List Byte) (n : Nat), l.foldl (fun n b => n * 256 + b.toNat) n = n * 256 ^ l.length + beNat l := by
    intro l
    induction l with
    | nil => intro n; simp [beNat]
    | cons b l ih =>
      intro n
      have h1 := ih (n * 256 + b.toNat)
      have h2 := ih (0 * 256 + b.toNat)
      simp only [beNat, List.foldl_cons, List.length_cons] at h1 h2 ⊢
      rw [h1, h2, Nat.pow_succ]
      simp only [Nat.zero_mul, Nat.zero_add, Nat.add_mul]
      rw [Nat.mul_assoc, Nat.mul_comm 256, Nat.add_assoc]
  simp only [beNat, List.foldl_append]
  exact key ys _

/-- The bytes of a number spell it, modulo their size. -/
theorem beNat_beBytes (k v : Nat) : beNat (beBytes k v) = v % 256 ^ k := by
  induction k with
  | zero => simp [beBytes, beNat, Nat.mod_one]
  | succ k ih =>
    have hc : beBytes (k + 1) v = [BitVec.ofNat 8 (v / 256 ^ k)] ++ beBytes k v := rfl
    rw [hc, beNat_append, ih, beBytes_length]
    have h1 : beNat [BitVec.ofNat 8 (v / 256 ^ k)] = v / 256 ^ k % 256 := by simp [beNat]
    rw [h1, Nat.pow_succ, Nat.mod_mul, Nat.mul_comm (256 ^ k), Nat.add_comm]

theorem beNat_beBytes_of_lt {k v : Nat} (h : v < 256 ^ k) : beNat (beBytes k v) = v := by
  rw [beNat_beBytes, Nat.mod_eq_of_lt h]

theorem withCheck_length (bs : List Byte) : (withCheck bs).length = bs.length + 2 := by
  simp [withCheck]

/-- Bytes followed by their own check value pass the check (R1). -/
theorem checkHolds_withCheck (bs : List Byte) : checkHolds (withCheck bs) = true := by
  have hl := withCheck_length bs
  simp only [checkHolds, hl, Nat.add_sub_cancel, Bool.and_eq_true, decide_eq_true_eq]
  refine ⟨by omega, ?_⟩
  simp [withCheck]

/-- A profile fills 42 bytes (spec 11.9). -/
theorem Profile.encode_length (p : Profile) : p.encode.length = 42 := by
  unfold Profile.encode
  simp only [List.length_append]
  simp only [beBytes_length]

end Sys2Proof
end

