-- ==== Sys2Proof/Laws/State.lean ====
section
/-! SUPPORT. One lemma per field per update: what each named update of the part and of the machine leaves as it was, true by rfl. -/

namespace Sys2Proof.Machine

/-! ## Part.mapPort -/

@[simp] theorem Part.mapPort_localTime (p : Part) (q : Party) (f : Port → Port) : (p.mapPort q f).localTime = p.localTime := rfl
@[simp] theorem Part.mapPort_failing (p : Part) (q : Party) (f : Port → Port) : (p.mapPort q f).failing = p.failing := rfl
@[simp] theorem Part.mapPort_restartCause (p : Part) (q : Party) (f : Port → Port) : (p.mapPort q f).restartCause = p.restartCause := rfl
@[simp] theorem Part.mapPort_receiver (p : Part) (q : Party) (f : Port → Port) : (p.mapPort q f).receiver = p.receiver := rfl
@[simp] theorem Part.mapPort_tracker (p : Part) (q : Party) (f : Port → Port) : (p.mapPort q f).tracker = p.tracker := rfl
@[simp] theorem Part.mapPort_engine (p : Part) (q : Party) (f : Port → Port) : (p.mapPort q f).engine = p.engine := rfl
@[simp] theorem Part.mapPort_classifier (p : Part) (q : Party) (f : Port → Port) : (p.mapPort q f).classifier = p.classifier := rfl
@[simp] theorem Part.mapPort_rvc (p : Part) (q : Party) (f : Port → Port) : (p.mapPort q f).rvc = p.rvc := rfl
@[simp] theorem Part.mapPort_folds (p : Part) (q : Party) (f : Port → Port) : (p.mapPort q f).folds = p.folds := rfl
@[simp] theorem Part.mapPort_aggregator (p : Part) (q : Party) (f : Port → Port) : (p.mapPort q f).aggregator = p.aggregator := rfl
@[simp] theorem Part.mapPort_recurrence (p : Part) (q : Party) (f : Port → Port) : (p.mapPort q f).recurrence = p.recurrence := rfl
@[simp] theorem Part.mapPort_capture (p : Part) (q : Party) (f : Port → Port) : (p.mapPort q f).capture = p.capture := rfl
@[simp] theorem Part.mapPort_commit (p : Part) (q : Party) (f : Port → Port) : (p.mapPort q f).commit = p.commit := rfl
@[simp] theorem Part.mapPort_array (p : Part) (q : Party) (f : Port → Port) : (p.mapPort q f).array = p.array := rfl
@[simp] theorem Part.mapPort_journal (p : Part) (q : Party) (f : Port → Port) : (p.mapPort q f).journal = p.journal := rfl
@[simp] theorem Part.mapPort_profile (p : Part) (q : Party) (f : Port → Port) : (p.mapPort q f).profile = p.profile := rfl
@[simp] theorem Part.mapPort_freeCount (p : Part) (q : Party) (f : Port → Port) : (p.mapPort q f).freeCount = p.freeCount := rfl

/-! ## Part.mapPorts -/

@[simp] theorem Part.mapPorts_localTime (p : Part) (f : Port → Port) : (p.mapPorts f).localTime = p.localTime := rfl
@[simp] theorem Part.mapPorts_failing (p : Part) (f : Port → Port) : (p.mapPorts f).failing = p.failing := rfl
@[simp] theorem Part.mapPorts_restartCause (p : Part) (f : Port → Port) : (p.mapPorts f).restartCause = p.restartCause := rfl
@[simp] theorem Part.mapPorts_receiver (p : Part) (f : Port → Port) : (p.mapPorts f).receiver = p.receiver := rfl
@[simp] theorem Part.mapPorts_tracker (p : Part) (f : Port → Port) : (p.mapPorts f).tracker = p.tracker := rfl
@[simp] theorem Part.mapPorts_engine (p : Part) (f : Port → Port) : (p.mapPorts f).engine = p.engine := rfl
@[simp] theorem Part.mapPorts_classifier (p : Part) (f : Port → Port) : (p.mapPorts f).classifier = p.classifier := rfl
@[simp] theorem Part.mapPorts_rvc (p : Part) (f : Port → Port) : (p.mapPorts f).rvc = p.rvc := rfl
@[simp] theorem Part.mapPorts_folds (p : Part) (f : Port → Port) : (p.mapPorts f).folds = p.folds := rfl
@[simp] theorem Part.mapPorts_aggregator (p : Part) (f : Port → Port) : (p.mapPorts f).aggregator = p.aggregator := rfl
@[simp] theorem Part.mapPorts_recurrence (p : Part) (f : Port → Port) : (p.mapPorts f).recurrence = p.recurrence := rfl
@[simp] theorem Part.mapPorts_capture (p : Part) (f : Port → Port) : (p.mapPorts f).capture = p.capture := rfl
@[simp] theorem Part.mapPorts_commit (p : Part) (f : Port → Port) : (p.mapPorts f).commit = p.commit := rfl
@[simp] theorem Part.mapPorts_array (p : Part) (f : Port → Port) : (p.mapPorts f).array = p.array := rfl
@[simp] theorem Part.mapPorts_journal (p : Part) (f : Port → Port) : (p.mapPorts f).journal = p.journal := rfl
@[simp] theorem Part.mapPorts_profile (p : Part) (f : Port → Port) : (p.mapPorts f).profile = p.profile := rfl
@[simp] theorem Part.mapPorts_freeCount (p : Part) (f : Port → Port) : (p.mapPorts f).freeCount = p.freeCount := rfl

/-! ## Part.openTransfer -/

@[simp] theorem Part.openTransfer_localTime (p : Part) (q : Party) : (p.openTransfer q).localTime = p.localTime := rfl
@[simp] theorem Part.openTransfer_failing (p : Part) (q : Party) : (p.openTransfer q).failing = p.failing := rfl
@[simp] theorem Part.openTransfer_restartCause (p : Part) (q : Party) : (p.openTransfer q).restartCause = p.restartCause := rfl
@[simp] theorem Part.openTransfer_receiver (p : Part) (q : Party) : (p.openTransfer q).receiver = p.receiver := rfl
@[simp] theorem Part.openTransfer_tracker (p : Part) (q : Party) : (p.openTransfer q).tracker = p.tracker := rfl
@[simp] theorem Part.openTransfer_engine (p : Part) (q : Party) : (p.openTransfer q).engine = p.engine := rfl
@[simp] theorem Part.openTransfer_classifier (p : Part) (q : Party) : (p.openTransfer q).classifier = p.classifier := rfl
@[simp] theorem Part.openTransfer_rvc (p : Part) (q : Party) : (p.openTransfer q).rvc = p.rvc := rfl
@[simp] theorem Part.openTransfer_folds (p : Part) (q : Party) : (p.openTransfer q).folds = p.folds := rfl
@[simp] theorem Part.openTransfer_aggregator (p : Part) (q : Party) : (p.openTransfer q).aggregator = p.aggregator := rfl
@[simp] theorem Part.openTransfer_recurrence (p : Part) (q : Party) : (p.openTransfer q).recurrence = p.recurrence := rfl
@[simp] theorem Part.openTransfer_capture (p : Part) (q : Party) : (p.openTransfer q).capture = p.capture := rfl
@[simp] theorem Part.openTransfer_commit (p : Part) (q : Party) : (p.openTransfer q).commit = p.commit := rfl
@[simp] theorem Part.openTransfer_array (p : Part) (q : Party) : (p.openTransfer q).array = p.array := rfl
@[simp] theorem Part.openTransfer_journal (p : Part) (q : Party) : (p.openTransfer q).journal = p.journal := rfl
@[simp] theorem Part.openTransfer_profile (p : Part) (q : Party) : (p.openTransfer q).profile = p.profile := rfl
@[simp] theorem Part.openTransfer_freeCount (p : Part) (q : Party) : (p.openTransfer q).freeCount = p.freeCount := rfl

/-! ## Part.answer -/

@[simp] theorem Part.answer_localTime (p : Part) (q : Party) (tag : Byte) (st : Status) (b : Body) : (p.answer q tag st b).localTime = p.localTime := rfl
@[simp] theorem Part.answer_failing (p : Part) (q : Party) (tag : Byte) (st : Status) (b : Body) : (p.answer q tag st b).failing = p.failing := rfl
@[simp] theorem Part.answer_restartCause (p : Part) (q : Party) (tag : Byte) (st : Status) (b : Body) : (p.answer q tag st b).restartCause = p.restartCause := rfl
@[simp] theorem Part.answer_receiver (p : Part) (q : Party) (tag : Byte) (st : Status) (b : Body) : (p.answer q tag st b).receiver = p.receiver := rfl
@[simp] theorem Part.answer_tracker (p : Part) (q : Party) (tag : Byte) (st : Status) (b : Body) : (p.answer q tag st b).tracker = p.tracker := rfl
@[simp] theorem Part.answer_engine (p : Part) (q : Party) (tag : Byte) (st : Status) (b : Body) : (p.answer q tag st b).engine = p.engine := rfl
@[simp] theorem Part.answer_classifier (p : Part) (q : Party) (tag : Byte) (st : Status) (b : Body) : (p.answer q tag st b).classifier = p.classifier := rfl
@[simp] theorem Part.answer_rvc (p : Part) (q : Party) (tag : Byte) (st : Status) (b : Body) : (p.answer q tag st b).rvc = p.rvc := rfl
@[simp] theorem Part.answer_folds (p : Part) (q : Party) (tag : Byte) (st : Status) (b : Body) : (p.answer q tag st b).folds = p.folds := rfl
@[simp] theorem Part.answer_aggregator (p : Part) (q : Party) (tag : Byte) (st : Status) (b : Body) : (p.answer q tag st b).aggregator = p.aggregator := rfl
@[simp] theorem Part.answer_recurrence (p : Part) (q : Party) (tag : Byte) (st : Status) (b : Body) : (p.answer q tag st b).recurrence = p.recurrence := rfl
@[simp] theorem Part.answer_capture (p : Part) (q : Party) (tag : Byte) (st : Status) (b : Body) : (p.answer q tag st b).capture = p.capture := rfl
@[simp] theorem Part.answer_commit (p : Part) (q : Party) (tag : Byte) (st : Status) (b : Body) : (p.answer q tag st b).commit = p.commit := rfl
@[simp] theorem Part.answer_array (p : Part) (q : Party) (tag : Byte) (st : Status) (b : Body) : (p.answer q tag st b).array = p.array := rfl
@[simp] theorem Part.answer_journal (p : Part) (q : Party) (tag : Byte) (st : Status) (b : Body) : (p.answer q tag st b).journal = p.journal := rfl
@[simp] theorem Part.answer_profile (p : Part) (q : Party) (tag : Byte) (st : Status) (b : Body) : (p.answer q tag st b).profile = p.profile := rfl
@[simp] theorem Part.answer_freeCount (p : Part) (q : Party) (tag : Byte) (st : Status) (b : Body) : (p.answer q tag st b).freeCount = p.freeCount := rfl

/-! ## Part.hold -/

@[simp] theorem Part.hold_localTime (p : Part) (q : Party) (tag : Byte) (h : Held) : (p.hold q tag h).localTime = p.localTime := rfl
@[simp] theorem Part.hold_failing (p : Part) (q : Party) (tag : Byte) (h : Held) : (p.hold q tag h).failing = p.failing := rfl
@[simp] theorem Part.hold_restartCause (p : Part) (q : Party) (tag : Byte) (h : Held) : (p.hold q tag h).restartCause = p.restartCause := rfl
@[simp] theorem Part.hold_receiver (p : Part) (q : Party) (tag : Byte) (h : Held) : (p.hold q tag h).receiver = p.receiver := rfl
@[simp] theorem Part.hold_tracker (p : Part) (q : Party) (tag : Byte) (h : Held) : (p.hold q tag h).tracker = p.tracker := rfl
@[simp] theorem Part.hold_engine (p : Part) (q : Party) (tag : Byte) (h : Held) : (p.hold q tag h).engine = p.engine := rfl
@[simp] theorem Part.hold_classifier (p : Part) (q : Party) (tag : Byte) (h : Held) : (p.hold q tag h).classifier = p.classifier := rfl
@[simp] theorem Part.hold_rvc (p : Part) (q : Party) (tag : Byte) (h : Held) : (p.hold q tag h).rvc = p.rvc := rfl
@[simp] theorem Part.hold_folds (p : Part) (q : Party) (tag : Byte) (h : Held) : (p.hold q tag h).folds = p.folds := rfl
@[simp] theorem Part.hold_aggregator (p : Part) (q : Party) (tag : Byte) (h : Held) : (p.hold q tag h).aggregator = p.aggregator := rfl
@[simp] theorem Part.hold_recurrence (p : Part) (q : Party) (tag : Byte) (h : Held) : (p.hold q tag h).recurrence = p.recurrence := rfl
@[simp] theorem Part.hold_capture (p : Part) (q : Party) (tag : Byte) (h : Held) : (p.hold q tag h).capture = p.capture := rfl
@[simp] theorem Part.hold_commit (p : Part) (q : Party) (tag : Byte) (h : Held) : (p.hold q tag h).commit = p.commit := rfl
@[simp] theorem Part.hold_array (p : Part) (q : Party) (tag : Byte) (h : Held) : (p.hold q tag h).array = p.array := rfl
@[simp] theorem Part.hold_journal (p : Part) (q : Party) (tag : Byte) (h : Held) : (p.hold q tag h).journal = p.journal := rfl
@[simp] theorem Part.hold_profile (p : Part) (q : Party) (tag : Byte) (h : Held) : (p.hold q tag h).profile = p.profile := rfl
@[simp] theorem Part.hold_freeCount (p : Part) (q : Party) (tag : Byte) (h : Held) : (p.hold q tag h).freeCount = p.freeCount := rfl

/-! ## Part.answerHeld -/

@[simp] theorem Part.answerHeld_localTime (p : Part) (q : Party) (st : Status) (b : Body) : (p.answerHeld q st b).localTime = p.localTime := rfl
@[simp] theorem Part.answerHeld_failing (p : Part) (q : Party) (st : Status) (b : Body) : (p.answerHeld q st b).failing = p.failing := rfl
@[simp] theorem Part.answerHeld_restartCause (p : Part) (q : Party) (st : Status) (b : Body) : (p.answerHeld q st b).restartCause = p.restartCause := rfl
@[simp] theorem Part.answerHeld_receiver (p : Part) (q : Party) (st : Status) (b : Body) : (p.answerHeld q st b).receiver = p.receiver := rfl
@[simp] theorem Part.answerHeld_tracker (p : Part) (q : Party) (st : Status) (b : Body) : (p.answerHeld q st b).tracker = p.tracker := rfl
@[simp] theorem Part.answerHeld_engine (p : Part) (q : Party) (st : Status) (b : Body) : (p.answerHeld q st b).engine = p.engine := rfl
@[simp] theorem Part.answerHeld_classifier (p : Part) (q : Party) (st : Status) (b : Body) : (p.answerHeld q st b).classifier = p.classifier := rfl
@[simp] theorem Part.answerHeld_rvc (p : Part) (q : Party) (st : Status) (b : Body) : (p.answerHeld q st b).rvc = p.rvc := rfl
@[simp] theorem Part.answerHeld_folds (p : Part) (q : Party) (st : Status) (b : Body) : (p.answerHeld q st b).folds = p.folds := rfl
@[simp] theorem Part.answerHeld_aggregator (p : Part) (q : Party) (st : Status) (b : Body) : (p.answerHeld q st b).aggregator = p.aggregator := rfl
@[simp] theorem Part.answerHeld_recurrence (p : Part) (q : Party) (st : Status) (b : Body) : (p.answerHeld q st b).recurrence = p.recurrence := rfl
@[simp] theorem Part.answerHeld_capture (p : Part) (q : Party) (st : Status) (b : Body) : (p.answerHeld q st b).capture = p.capture := rfl
@[simp] theorem Part.answerHeld_commit (p : Part) (q : Party) (st : Status) (b : Body) : (p.answerHeld q st b).commit = p.commit := rfl
@[simp] theorem Part.answerHeld_array (p : Part) (q : Party) (st : Status) (b : Body) : (p.answerHeld q st b).array = p.array := rfl
@[simp] theorem Part.answerHeld_journal (p : Part) (q : Party) (st : Status) (b : Body) : (p.answerHeld q st b).journal = p.journal := rfl
@[simp] theorem Part.answerHeld_profile (p : Part) (q : Party) (st : Status) (b : Body) : (p.answerHeld q st b).profile = p.profile := rfl
@[simp] theorem Part.answerHeld_freeCount (p : Part) (q : Party) (st : Status) (b : Body) : (p.answerHeld q st b).freeCount = p.freeCount := rfl

/-! ## Part.raiseAt -/

@[simp] theorem Part.raiseAt_localTime (p : Part) (q : Party) (k : NoticeKind) (d : Detail) : (p.raiseAt q k d).localTime = p.localTime := rfl
@[simp] theorem Part.raiseAt_failing (p : Part) (q : Party) (k : NoticeKind) (d : Detail) : (p.raiseAt q k d).failing = p.failing := rfl
@[simp] theorem Part.raiseAt_restartCause (p : Part) (q : Party) (k : NoticeKind) (d : Detail) : (p.raiseAt q k d).restartCause = p.restartCause := rfl
@[simp] theorem Part.raiseAt_receiver (p : Part) (q : Party) (k : NoticeKind) (d : Detail) : (p.raiseAt q k d).receiver = p.receiver := rfl
@[simp] theorem Part.raiseAt_tracker (p : Part) (q : Party) (k : NoticeKind) (d : Detail) : (p.raiseAt q k d).tracker = p.tracker := rfl
@[simp] theorem Part.raiseAt_engine (p : Part) (q : Party) (k : NoticeKind) (d : Detail) : (p.raiseAt q k d).engine = p.engine := rfl
@[simp] theorem Part.raiseAt_classifier (p : Part) (q : Party) (k : NoticeKind) (d : Detail) : (p.raiseAt q k d).classifier = p.classifier := rfl
@[simp] theorem Part.raiseAt_rvc (p : Part) (q : Party) (k : NoticeKind) (d : Detail) : (p.raiseAt q k d).rvc = p.rvc := rfl
@[simp] theorem Part.raiseAt_folds (p : Part) (q : Party) (k : NoticeKind) (d : Detail) : (p.raiseAt q k d).folds = p.folds := rfl
@[simp] theorem Part.raiseAt_aggregator (p : Part) (q : Party) (k : NoticeKind) (d : Detail) : (p.raiseAt q k d).aggregator = p.aggregator := rfl
@[simp] theorem Part.raiseAt_recurrence (p : Part) (q : Party) (k : NoticeKind) (d : Detail) : (p.raiseAt q k d).recurrence = p.recurrence := rfl
@[simp] theorem Part.raiseAt_capture (p : Part) (q : Party) (k : NoticeKind) (d : Detail) : (p.raiseAt q k d).capture = p.capture := rfl
@[simp] theorem Part.raiseAt_commit (p : Part) (q : Party) (k : NoticeKind) (d : Detail) : (p.raiseAt q k d).commit = p.commit := rfl
@[simp] theorem Part.raiseAt_array (p : Part) (q : Party) (k : NoticeKind) (d : Detail) : (p.raiseAt q k d).array = p.array := rfl
@[simp] theorem Part.raiseAt_journal (p : Part) (q : Party) (k : NoticeKind) (d : Detail) : (p.raiseAt q k d).journal = p.journal := rfl
@[simp] theorem Part.raiseAt_profile (p : Part) (q : Party) (k : NoticeKind) (d : Detail) : (p.raiseAt q k d).profile = p.profile := rfl
@[simp] theorem Part.raiseAt_freeCount (p : Part) (q : Party) (k : NoticeKind) (d : Detail) : (p.raiseAt q k d).freeCount = p.freeCount := rfl

/-! ## Part.raiseAll -/

@[simp] theorem Part.raiseAll_localTime (p : Part) (k : NoticeKind) (d : Detail) : (p.raiseAll k d).localTime = p.localTime := rfl
@[simp] theorem Part.raiseAll_failing (p : Part) (k : NoticeKind) (d : Detail) : (p.raiseAll k d).failing = p.failing := rfl
@[simp] theorem Part.raiseAll_restartCause (p : Part) (k : NoticeKind) (d : Detail) : (p.raiseAll k d).restartCause = p.restartCause := rfl
@[simp] theorem Part.raiseAll_receiver (p : Part) (k : NoticeKind) (d : Detail) : (p.raiseAll k d).receiver = p.receiver := rfl
@[simp] theorem Part.raiseAll_tracker (p : Part) (k : NoticeKind) (d : Detail) : (p.raiseAll k d).tracker = p.tracker := rfl
@[simp] theorem Part.raiseAll_engine (p : Part) (k : NoticeKind) (d : Detail) : (p.raiseAll k d).engine = p.engine := rfl
@[simp] theorem Part.raiseAll_classifier (p : Part) (k : NoticeKind) (d : Detail) : (p.raiseAll k d).classifier = p.classifier := rfl
@[simp] theorem Part.raiseAll_rvc (p : Part) (k : NoticeKind) (d : Detail) : (p.raiseAll k d).rvc = p.rvc := rfl
@[simp] theorem Part.raiseAll_folds (p : Part) (k : NoticeKind) (d : Detail) : (p.raiseAll k d).folds = p.folds := rfl
@[simp] theorem Part.raiseAll_aggregator (p : Part) (k : NoticeKind) (d : Detail) : (p.raiseAll k d).aggregator = p.aggregator := rfl
@[simp] theorem Part.raiseAll_recurrence (p : Part) (k : NoticeKind) (d : Detail) : (p.raiseAll k d).recurrence = p.recurrence := rfl
@[simp] theorem Part.raiseAll_capture (p : Part) (k : NoticeKind) (d : Detail) : (p.raiseAll k d).capture = p.capture := rfl
@[simp] theorem Part.raiseAll_commit (p : Part) (k : NoticeKind) (d : Detail) : (p.raiseAll k d).commit = p.commit := rfl
@[simp] theorem Part.raiseAll_array (p : Part) (k : NoticeKind) (d : Detail) : (p.raiseAll k d).array = p.array := rfl
@[simp] theorem Part.raiseAll_journal (p : Part) (k : NoticeKind) (d : Detail) : (p.raiseAll k d).journal = p.journal := rfl
@[simp] theorem Part.raiseAll_profile (p : Part) (k : NoticeKind) (d : Detail) : (p.raiseAll k d).profile = p.profile := rfl
@[simp] theorem Part.raiseAll_freeCount (p : Part) (k : NoticeKind) (d : Detail) : (p.raiseAll k d).freeCount = p.freeCount := rfl

/-! ## Part.setNote -/

@[simp] theorem Part.setNote_localTime (p : Part) (q : Party) (n : Note) : (p.setNote q n).localTime = p.localTime := rfl
@[simp] theorem Part.setNote_failing (p : Part) (q : Party) (n : Note) : (p.setNote q n).failing = p.failing := rfl
@[simp] theorem Part.setNote_restartCause (p : Part) (q : Party) (n : Note) : (p.setNote q n).restartCause = p.restartCause := rfl
@[simp] theorem Part.setNote_receiver (p : Part) (q : Party) (n : Note) : (p.setNote q n).receiver = p.receiver := rfl
@[simp] theorem Part.setNote_tracker (p : Part) (q : Party) (n : Note) : (p.setNote q n).tracker = p.tracker := rfl
@[simp] theorem Part.setNote_engine (p : Part) (q : Party) (n : Note) : (p.setNote q n).engine = p.engine := rfl
@[simp] theorem Part.setNote_classifier (p : Part) (q : Party) (n : Note) : (p.setNote q n).classifier = p.classifier := rfl
@[simp] theorem Part.setNote_rvc (p : Part) (q : Party) (n : Note) : (p.setNote q n).rvc = p.rvc := rfl
@[simp] theorem Part.setNote_folds (p : Part) (q : Party) (n : Note) : (p.setNote q n).folds = p.folds := rfl
@[simp] theorem Part.setNote_aggregator (p : Part) (q : Party) (n : Note) : (p.setNote q n).aggregator = p.aggregator := rfl
@[simp] theorem Part.setNote_recurrence (p : Part) (q : Party) (n : Note) : (p.setNote q n).recurrence = p.recurrence := rfl
@[simp] theorem Part.setNote_capture (p : Part) (q : Party) (n : Note) : (p.setNote q n).capture = p.capture := rfl
@[simp] theorem Part.setNote_commit (p : Part) (q : Party) (n : Note) : (p.setNote q n).commit = p.commit := rfl
@[simp] theorem Part.setNote_array (p : Part) (q : Party) (n : Note) : (p.setNote q n).array = p.array := rfl
@[simp] theorem Part.setNote_journal (p : Part) (q : Party) (n : Note) : (p.setNote q n).journal = p.journal := rfl
@[simp] theorem Part.setNote_profile (p : Part) (q : Party) (n : Note) : (p.setNote q n).profile = p.profile := rfl
@[simp] theorem Part.setNote_freeCount (p : Part) (q : Party) (n : Note) : (p.setNote q n).freeCount = p.freeCount := rfl

/-! ## Part.setJournalState -/

@[simp] theorem Part.setJournalState_localTime (p : Part) (st : JournalState) : (p.setJournalState st).localTime = p.localTime := rfl
@[simp] theorem Part.setJournalState_failing (p : Part) (st : JournalState) : (p.setJournalState st).failing = p.failing := rfl
@[simp] theorem Part.setJournalState_restartCause (p : Part) (st : JournalState) : (p.setJournalState st).restartCause = p.restartCause := rfl
@[simp] theorem Part.setJournalState_receiver (p : Part) (st : JournalState) : (p.setJournalState st).receiver = p.receiver := rfl
@[simp] theorem Part.setJournalState_tracker (p : Part) (st : JournalState) : (p.setJournalState st).tracker = p.tracker := rfl
@[simp] theorem Part.setJournalState_engine (p : Part) (st : JournalState) : (p.setJournalState st).engine = p.engine := rfl
@[simp] theorem Part.setJournalState_classifier (p : Part) (st : JournalState) : (p.setJournalState st).classifier = p.classifier := rfl
@[simp] theorem Part.setJournalState_rvc (p : Part) (st : JournalState) : (p.setJournalState st).rvc = p.rvc := rfl
@[simp] theorem Part.setJournalState_folds (p : Part) (st : JournalState) : (p.setJournalState st).folds = p.folds := rfl
@[simp] theorem Part.setJournalState_aggregator (p : Part) (st : JournalState) : (p.setJournalState st).aggregator = p.aggregator := rfl
@[simp] theorem Part.setJournalState_recurrence (p : Part) (st : JournalState) : (p.setJournalState st).recurrence = p.recurrence := rfl
@[simp] theorem Part.setJournalState_capture (p : Part) (st : JournalState) : (p.setJournalState st).capture = p.capture := rfl
@[simp] theorem Part.setJournalState_commit (p : Part) (st : JournalState) : (p.setJournalState st).commit = p.commit := rfl
@[simp] theorem Part.setJournalState_array (p : Part) (st : JournalState) : (p.setJournalState st).array = p.array := rfl
@[simp] theorem Part.setJournalState_profile (p : Part) (st : JournalState) : (p.setJournalState st).profile = p.profile := rfl
@[simp] theorem Part.setJournalState_ports (p : Part) (st : JournalState) : (p.setJournalState st).ports = p.ports := rfl
@[simp] theorem Part.setJournalState_freeCount (p : Part) (st : JournalState) : (p.setJournalState st).freeCount = p.freeCount := rfl

/-! ## Part.enterBlocked -/

@[simp] theorem Part.enterBlocked_localTime (p : Part) : p.enterBlocked.localTime = p.localTime := rfl
@[simp] theorem Part.enterBlocked_failing (p : Part) : p.enterBlocked.failing = p.failing := rfl
@[simp] theorem Part.enterBlocked_restartCause (p : Part) : p.enterBlocked.restartCause = p.restartCause := rfl
@[simp] theorem Part.enterBlocked_receiver (p : Part) : p.enterBlocked.receiver = p.receiver := rfl
@[simp] theorem Part.enterBlocked_tracker (p : Part) : p.enterBlocked.tracker = p.tracker := rfl
@[simp] theorem Part.enterBlocked_engine (p : Part) : p.enterBlocked.engine = p.engine := rfl
@[simp] theorem Part.enterBlocked_classifier (p : Part) : p.enterBlocked.classifier = p.classifier := rfl
@[simp] theorem Part.enterBlocked_rvc (p : Part) : p.enterBlocked.rvc = p.rvc := rfl
@[simp] theorem Part.enterBlocked_folds (p : Part) : p.enterBlocked.folds = p.folds := rfl
@[simp] theorem Part.enterBlocked_aggregator (p : Part) : p.enterBlocked.aggregator = p.aggregator := rfl
@[simp] theorem Part.enterBlocked_recurrence (p : Part) : p.enterBlocked.recurrence = p.recurrence := rfl
@[simp] theorem Part.enterBlocked_capture (p : Part) : p.enterBlocked.capture = p.capture := rfl
@[simp] theorem Part.enterBlocked_commit (p : Part) : p.enterBlocked.commit = p.commit := rfl
@[simp] theorem Part.enterBlocked_array (p : Part) : p.enterBlocked.array = p.array := rfl
@[simp] theorem Part.enterBlocked_profile (p : Part) : p.enterBlocked.profile = p.profile := rfl
@[simp] theorem Part.enterBlocked_freeCount (p : Part) : p.enterBlocked.freeCount = p.freeCount := rfl

/-! ## Part.pushPriority -/

@[simp] theorem Part.pushPriority_localTime (p : Part) (r : Rec) : (p.pushPriority r).localTime = p.localTime := rfl
@[simp] theorem Part.pushPriority_failing (p : Part) (r : Rec) : (p.pushPriority r).failing = p.failing := rfl
@[simp] theorem Part.pushPriority_restartCause (p : Part) (r : Rec) : (p.pushPriority r).restartCause = p.restartCause := rfl
@[simp] theorem Part.pushPriority_receiver (p : Part) (r : Rec) : (p.pushPriority r).receiver = p.receiver := rfl
@[simp] theorem Part.pushPriority_tracker (p : Part) (r : Rec) : (p.pushPriority r).tracker = p.tracker := rfl
@[simp] theorem Part.pushPriority_engine (p : Part) (r : Rec) : (p.pushPriority r).engine = p.engine := rfl
@[simp] theorem Part.pushPriority_classifier (p : Part) (r : Rec) : (p.pushPriority r).classifier = p.classifier := rfl
@[simp] theorem Part.pushPriority_rvc (p : Part) (r : Rec) : (p.pushPriority r).rvc = p.rvc := rfl
@[simp] theorem Part.pushPriority_folds (p : Part) (r : Rec) : (p.pushPriority r).folds = p.folds := rfl
@[simp] theorem Part.pushPriority_aggregator (p : Part) (r : Rec) : (p.pushPriority r).aggregator = p.aggregator := rfl
@[simp] theorem Part.pushPriority_recurrence (p : Part) (r : Rec) : (p.pushPriority r).recurrence = p.recurrence := rfl
@[simp] theorem Part.pushPriority_capture (p : Part) (r : Rec) : (p.pushPriority r).capture = p.capture := rfl
@[simp] theorem Part.pushPriority_array (p : Part) (r : Rec) : (p.pushPriority r).array = p.array := rfl
@[simp] theorem Part.pushPriority_journal (p : Part) (r : Rec) : (p.pushPriority r).journal = p.journal := rfl
@[simp] theorem Part.pushPriority_profile (p : Part) (r : Rec) : (p.pushPriority r).profile = p.profile := rfl
@[simp] theorem Part.pushPriority_ports (p : Part) (r : Rec) : (p.pushPriority r).ports = p.ports := rfl
@[simp] theorem Part.pushPriority_freeCount (p : Part) (r : Rec) : (p.pushPriority r).freeCount = p.freeCount := rfl

/-! ## Part.withhold -/

@[simp] theorem Part.withhold_localTime (p : Part) (r : Rec) : (p.withhold r).localTime = p.localTime := rfl
@[simp] theorem Part.withhold_failing (p : Part) (r : Rec) : (p.withhold r).failing = p.failing := rfl
@[simp] theorem Part.withhold_restartCause (p : Part) (r : Rec) : (p.withhold r).restartCause = p.restartCause := rfl
@[simp] theorem Part.withhold_receiver (p : Part) (r : Rec) : (p.withhold r).receiver = p.receiver := rfl
@[simp] theorem Part.withhold_tracker (p : Part) (r : Rec) : (p.withhold r).tracker = p.tracker := rfl
@[simp] theorem Part.withhold_engine (p : Part) (r : Rec) : (p.withhold r).engine = p.engine := rfl
@[simp] theorem Part.withhold_classifier (p : Part) (r : Rec) : (p.withhold r).classifier = p.classifier := rfl
@[simp] theorem Part.withhold_rvc (p : Part) (r : Rec) : (p.withhold r).rvc = p.rvc := rfl
@[simp] theorem Part.withhold_folds (p : Part) (r : Rec) : (p.withhold r).folds = p.folds := rfl
@[simp] theorem Part.withhold_aggregator (p : Part) (r : Rec) : (p.withhold r).aggregator = p.aggregator := rfl
@[simp] theorem Part.withhold_recurrence (p : Part) (r : Rec) : (p.withhold r).recurrence = p.recurrence := rfl
@[simp] theorem Part.withhold_capture (p : Part) (r : Rec) : (p.withhold r).capture = p.capture := rfl
@[simp] theorem Part.withhold_array (p : Part) (r : Rec) : (p.withhold r).array = p.array := rfl
@[simp] theorem Part.withhold_journal (p : Part) (r : Rec) : (p.withhold r).journal = p.journal := rfl
@[simp] theorem Part.withhold_profile (p : Part) (r : Rec) : (p.withhold r).profile = p.profile := rfl
@[simp] theorem Part.withhold_freeCount (p : Part) (r : Rec) : (p.withhold r).freeCount = p.freeCount := rfl

/-! ## Part.setFold -/

@[simp] theorem Part.setFold_localTime (p : Part) (t : FoldType) (m : Fold) : (p.setFold t m).localTime = p.localTime := rfl
@[simp] theorem Part.setFold_failing (p : Part) (t : FoldType) (m : Fold) : (p.setFold t m).failing = p.failing := rfl
@[simp] theorem Part.setFold_restartCause (p : Part) (t : FoldType) (m : Fold) : (p.setFold t m).restartCause = p.restartCause := rfl
@[simp] theorem Part.setFold_receiver (p : Part) (t : FoldType) (m : Fold) : (p.setFold t m).receiver = p.receiver := rfl
@[simp] theorem Part.setFold_tracker (p : Part) (t : FoldType) (m : Fold) : (p.setFold t m).tracker = p.tracker := rfl
@[simp] theorem Part.setFold_engine (p : Part) (t : FoldType) (m : Fold) : (p.setFold t m).engine = p.engine := rfl
@[simp] theorem Part.setFold_classifier (p : Part) (t : FoldType) (m : Fold) : (p.setFold t m).classifier = p.classifier := rfl
@[simp] theorem Part.setFold_rvc (p : Part) (t : FoldType) (m : Fold) : (p.setFold t m).rvc = p.rvc := rfl
@[simp] theorem Part.setFold_aggregator (p : Part) (t : FoldType) (m : Fold) : (p.setFold t m).aggregator = p.aggregator := rfl
@[simp] theorem Part.setFold_recurrence (p : Part) (t : FoldType) (m : Fold) : (p.setFold t m).recurrence = p.recurrence := rfl
@[simp] theorem Part.setFold_capture (p : Part) (t : FoldType) (m : Fold) : (p.setFold t m).capture = p.capture := rfl
@[simp] theorem Part.setFold_commit (p : Part) (t : FoldType) (m : Fold) : (p.setFold t m).commit = p.commit := rfl
@[simp] theorem Part.setFold_array (p : Part) (t : FoldType) (m : Fold) : (p.setFold t m).array = p.array := rfl
@[simp] theorem Part.setFold_journal (p : Part) (t : FoldType) (m : Fold) : (p.setFold t m).journal = p.journal := rfl
@[simp] theorem Part.setFold_profile (p : Part) (t : FoldType) (m : Fold) : (p.setFold t m).profile = p.profile := rfl
@[simp] theorem Part.setFold_ports (p : Part) (t : FoldType) (m : Fold) : (p.setFold t m).ports = p.ports := rfl
@[simp] theorem Part.setFold_freeCount (p : Part) (t : FoldType) (m : Fold) : (p.setFold t m).freeCount = p.freeCount := rfl

/-! ## Part.setMachine -/

@[simp] theorem Part.setMachine_localTime (p : Part) (t : EventType) (e : Option OpenEvent) : (p.setMachine t e).localTime = p.localTime := rfl
@[simp] theorem Part.setMachine_failing (p : Part) (t : EventType) (e : Option OpenEvent) : (p.setMachine t e).failing = p.failing := rfl
@[simp] theorem Part.setMachine_restartCause (p : Part) (t : EventType) (e : Option OpenEvent) : (p.setMachine t e).restartCause = p.restartCause := rfl
@[simp] theorem Part.setMachine_receiver (p : Part) (t : EventType) (e : Option OpenEvent) : (p.setMachine t e).receiver = p.receiver := rfl
@[simp] theorem Part.setMachine_tracker (p : Part) (t : EventType) (e : Option OpenEvent) : (p.setMachine t e).tracker = p.tracker := rfl
@[simp] theorem Part.setMachine_engine (p : Part) (t : EventType) (e : Option OpenEvent) : (p.setMachine t e).engine = p.engine := rfl
@[simp] theorem Part.setMachine_rvc (p : Part) (t : EventType) (e : Option OpenEvent) : (p.setMachine t e).rvc = p.rvc := rfl
@[simp] theorem Part.setMachine_folds (p : Part) (t : EventType) (e : Option OpenEvent) : (p.setMachine t e).folds = p.folds := rfl
@[simp] theorem Part.setMachine_aggregator (p : Part) (t : EventType) (e : Option OpenEvent) : (p.setMachine t e).aggregator = p.aggregator := rfl
@[simp] theorem Part.setMachine_recurrence (p : Part) (t : EventType) (e : Option OpenEvent) : (p.setMachine t e).recurrence = p.recurrence := rfl
@[simp] theorem Part.setMachine_capture (p : Part) (t : EventType) (e : Option OpenEvent) : (p.setMachine t e).capture = p.capture := rfl
@[simp] theorem Part.setMachine_commit (p : Part) (t : EventType) (e : Option OpenEvent) : (p.setMachine t e).commit = p.commit := rfl
@[simp] theorem Part.setMachine_array (p : Part) (t : EventType) (e : Option OpenEvent) : (p.setMachine t e).array = p.array := rfl
@[simp] theorem Part.setMachine_journal (p : Part) (t : EventType) (e : Option OpenEvent) : (p.setMachine t e).journal = p.journal := rfl
@[simp] theorem Part.setMachine_profile (p : Part) (t : EventType) (e : Option OpenEvent) : (p.setMachine t e).profile = p.profile := rfl
@[simp] theorem Part.setMachine_ports (p : Part) (t : EventType) (e : Option OpenEvent) : (p.setMachine t e).ports = p.ports := rfl
@[simp] theorem Part.setMachine_freeCount (p : Part) (t : EventType) (e : Option OpenEvent) : (p.setMachine t e).freeCount = p.freeCount := rfl

/-! ## Part.endOp -/

@[simp] theorem Part.endOp_localTime (p : Part) : p.endOp.localTime = p.localTime := rfl
@[simp] theorem Part.endOp_failing (p : Part) : p.endOp.failing = p.failing := rfl
@[simp] theorem Part.endOp_restartCause (p : Part) : p.endOp.restartCause = p.restartCause := rfl
@[simp] theorem Part.endOp_receiver (p : Part) : p.endOp.receiver = p.receiver := rfl
@[simp] theorem Part.endOp_tracker (p : Part) : p.endOp.tracker = p.tracker := rfl
@[simp] theorem Part.endOp_engine (p : Part) : p.endOp.engine = p.engine := rfl
@[simp] theorem Part.endOp_classifier (p : Part) : p.endOp.classifier = p.classifier := rfl
@[simp] theorem Part.endOp_rvc (p : Part) : p.endOp.rvc = p.rvc := rfl
@[simp] theorem Part.endOp_folds (p : Part) : p.endOp.folds = p.folds := rfl
@[simp] theorem Part.endOp_aggregator (p : Part) : p.endOp.aggregator = p.aggregator := rfl
@[simp] theorem Part.endOp_recurrence (p : Part) : p.endOp.recurrence = p.recurrence := rfl
@[simp] theorem Part.endOp_capture (p : Part) : p.endOp.capture = p.capture := rfl
@[simp] theorem Part.endOp_commit (p : Part) : p.endOp.commit = p.commit := rfl
@[simp] theorem Part.endOp_journal (p : Part) : p.endOp.journal = p.journal := rfl
@[simp] theorem Part.endOp_profile (p : Part) : p.endOp.profile = p.profile := rfl
@[simp] theorem Part.endOp_ports (p : Part) : p.endOp.ports = p.ports := rfl
@[simp] theorem Part.endOp_freeCount (p : Part) : p.endOp.freeCount = p.freeCount := rfl
@[simp] theorem Part.endOp_op (p : Part) : p.endOp.array.op = none := rfl
@[simp] theorem Part.endOp_lastGranted (p : Part) : p.endOp.array.lastGranted = p.array.lastGranted := rfl
@[simp] theorem Part.endOp_choice (p : Part) : p.endOp.array.choice = p.array.choice := rfl
@[simp] theorem Part.endOp_chosenRelease (p : Part) : p.endOp.array.chosenRelease = p.array.chosenRelease := rfl

/-! ## Part.startOp -/

@[simp] theorem Part.startOp_localTime (p : Part) (r : Requester) (op : ArrayOp) : (p.startOp r op).localTime = p.localTime := rfl
@[simp] theorem Part.startOp_failing (p : Part) (r : Requester) (op : ArrayOp) : (p.startOp r op).failing = p.failing := rfl
@[simp] theorem Part.startOp_restartCause (p : Part) (r : Requester) (op : ArrayOp) : (p.startOp r op).restartCause = p.restartCause := rfl
@[simp] theorem Part.startOp_receiver (p : Part) (r : Requester) (op : ArrayOp) : (p.startOp r op).receiver = p.receiver := rfl
@[simp] theorem Part.startOp_tracker (p : Part) (r : Requester) (op : ArrayOp) : (p.startOp r op).tracker = p.tracker := rfl
@[simp] theorem Part.startOp_engine (p : Part) (r : Requester) (op : ArrayOp) : (p.startOp r op).engine = p.engine := rfl
@[simp] theorem Part.startOp_classifier (p : Part) (r : Requester) (op : ArrayOp) : (p.startOp r op).classifier = p.classifier := rfl
@[simp] theorem Part.startOp_rvc (p : Part) (r : Requester) (op : ArrayOp) : (p.startOp r op).rvc = p.rvc := rfl
@[simp] theorem Part.startOp_folds (p : Part) (r : Requester) (op : ArrayOp) : (p.startOp r op).folds = p.folds := rfl
@[simp] theorem Part.startOp_aggregator (p : Part) (r : Requester) (op : ArrayOp) : (p.startOp r op).aggregator = p.aggregator := rfl
@[simp] theorem Part.startOp_recurrence (p : Part) (r : Requester) (op : ArrayOp) : (p.startOp r op).recurrence = p.recurrence := rfl
@[simp] theorem Part.startOp_capture (p : Part) (r : Requester) (op : ArrayOp) : (p.startOp r op).capture = p.capture := rfl
@[simp] theorem Part.startOp_commit (p : Part) (r : Requester) (op : ArrayOp) : (p.startOp r op).commit = p.commit := rfl
@[simp] theorem Part.startOp_journal (p : Part) (r : Requester) (op : ArrayOp) : (p.startOp r op).journal = p.journal := rfl
@[simp] theorem Part.startOp_profile (p : Part) (r : Requester) (op : ArrayOp) : (p.startOp r op).profile = p.profile := rfl
@[simp] theorem Part.startOp_ports (p : Part) (r : Requester) (op : ArrayOp) : (p.startOp r op).ports = p.ports := rfl
@[simp] theorem Part.startOp_freeCount (p : Part) (r : Requester) (op : ArrayOp) : (p.startOp r op).freeCount = p.freeCount := rfl
@[simp] theorem Part.startOp_op (p : Part) (r : Requester) (op : ArrayOp) : (p.startOp r op).array.op = some op := rfl
@[simp] theorem Part.startOp_lastGranted (p : Part) (r : Requester) (op : ArrayOp) : (p.startOp r op).array.lastGranted = r := rfl
@[simp] theorem Part.startOp_choice (p : Part) (r : Requester) (op : ArrayOp) : (p.startOp r op).array.choice = p.array.choice := rfl
@[simp] theorem Part.startOp_chosenRelease (p : Part) (r : Requester) (op : ArrayOp) :
    (p.startOp r op).array.chosenRelease = p.array.chosenRelease := rfl

/-! ## Part.tick -/

@[simp] theorem Part.tick_failing (p : Part) : p.tick.failing = p.failing := rfl
@[simp] theorem Part.tick_restartCause (p : Part) : p.tick.restartCause = p.restartCause := rfl
@[simp] theorem Part.tick_receiver (p : Part) : p.tick.receiver = p.receiver := rfl
@[simp] theorem Part.tick_tracker (p : Part) : p.tick.tracker = p.tracker := rfl
@[simp] theorem Part.tick_engine (p : Part) : p.tick.engine = p.engine := rfl
@[simp] theorem Part.tick_classifier (p : Part) : p.tick.classifier = p.classifier := rfl
@[simp] theorem Part.tick_rvc (p : Part) : p.tick.rvc = p.rvc := rfl
@[simp] theorem Part.tick_folds (p : Part) : p.tick.folds = p.folds := rfl
@[simp] theorem Part.tick_aggregator (p : Part) : p.tick.aggregator = p.aggregator := rfl
@[simp] theorem Part.tick_recurrence (p : Part) : p.tick.recurrence = p.recurrence := rfl
@[simp] theorem Part.tick_capture (p : Part) : p.tick.capture = p.capture := rfl
@[simp] theorem Part.tick_commit (p : Part) : p.tick.commit = p.commit := rfl
@[simp] theorem Part.tick_array (p : Part) : p.tick.array = p.array := rfl
@[simp] theorem Part.tick_journal (p : Part) : p.tick.journal = p.journal := rfl
@[simp] theorem Part.tick_profile (p : Part) : p.tick.profile = p.profile := rfl
@[simp] theorem Part.tick_ports (p : Part) : p.tick.ports = p.ports := rfl
@[simp] theorem Part.tick_freeCount (p : Part) : p.tick.freeCount = p.freeCount := rfl

/-! ## Part.setProposal -/

@[simp] theorem Part.setProposal_localTime (p : Part) (pr : Proposal) : (p.setProposal pr).localTime = p.localTime := rfl
@[simp] theorem Part.setProposal_failing (p : Part) (pr : Proposal) : (p.setProposal pr).failing = p.failing := rfl
@[simp] theorem Part.setProposal_restartCause (p : Part) (pr : Proposal) : (p.setProposal pr).restartCause = p.restartCause := rfl
@[simp] theorem Part.setProposal_receiver (p : Part) (pr : Proposal) : (p.setProposal pr).receiver = p.receiver := rfl
@[simp] theorem Part.setProposal_tracker (p : Part) (pr : Proposal) : (p.setProposal pr).tracker = p.tracker := rfl
@[simp] theorem Part.setProposal_engine (p : Part) (pr : Proposal) : (p.setProposal pr).engine = p.engine := rfl
@[simp] theorem Part.setProposal_classifier (p : Part) (pr : Proposal) : (p.setProposal pr).classifier = p.classifier := rfl
@[simp] theorem Part.setProposal_rvc (p : Part) (pr : Proposal) : (p.setProposal pr).rvc = p.rvc := rfl
@[simp] theorem Part.setProposal_folds (p : Part) (pr : Proposal) : (p.setProposal pr).folds = p.folds := rfl
@[simp] theorem Part.setProposal_aggregator (p : Part) (pr : Proposal) : (p.setProposal pr).aggregator = p.aggregator := rfl
@[simp] theorem Part.setProposal_recurrence (p : Part) (pr : Proposal) : (p.setProposal pr).recurrence = p.recurrence := rfl
@[simp] theorem Part.setProposal_capture (p : Part) (pr : Proposal) : (p.setProposal pr).capture = p.capture := rfl
@[simp] theorem Part.setProposal_commit (p : Part) (pr : Proposal) : (p.setProposal pr).commit = p.commit := rfl
@[simp] theorem Part.setProposal_array (p : Part) (pr : Proposal) : (p.setProposal pr).array = p.array := rfl
@[simp] theorem Part.setProposal_journal (p : Part) (pr : Proposal) : (p.setProposal pr).journal = p.journal := rfl
@[simp] theorem Part.setProposal_ports (p : Part) (pr : Proposal) : (p.setProposal pr).ports = p.ports := rfl
@[simp] theorem Part.setProposal_freeCount (p : Part) (pr : Proposal) : (p.setProposal pr).freeCount = p.freeCount := rfl

/-! ## Part.consent -/

@[simp] theorem Part.consent_localTime (p : Part) (pr : Proposal) : (p.consent pr).localTime = p.localTime := rfl
@[simp] theorem Part.consent_failing (p : Part) (pr : Proposal) : (p.consent pr).failing = p.failing := rfl
@[simp] theorem Part.consent_restartCause (p : Part) (pr : Proposal) : (p.consent pr).restartCause = p.restartCause := rfl
@[simp] theorem Part.consent_receiver (p : Part) (pr : Proposal) : (p.consent pr).receiver = p.receiver := rfl
@[simp] theorem Part.consent_tracker (p : Part) (pr : Proposal) : (p.consent pr).tracker = p.tracker := rfl
@[simp] theorem Part.consent_engine (p : Part) (pr : Proposal) : (p.consent pr).engine = p.engine := rfl
@[simp] theorem Part.consent_classifier (p : Part) (pr : Proposal) : (p.consent pr).classifier = p.classifier := rfl
@[simp] theorem Part.consent_rvc (p : Part) (pr : Proposal) : (p.consent pr).rvc = p.rvc := rfl
@[simp] theorem Part.consent_folds (p : Part) (pr : Proposal) : (p.consent pr).folds = p.folds := rfl
@[simp] theorem Part.consent_aggregator (p : Part) (pr : Proposal) : (p.consent pr).aggregator = p.aggregator := rfl
@[simp] theorem Part.consent_recurrence (p : Part) (pr : Proposal) : (p.consent pr).recurrence = p.recurrence := rfl
@[simp] theorem Part.consent_capture (p : Part) (pr : Proposal) : (p.consent pr).capture = p.capture := rfl
@[simp] theorem Part.consent_commit (p : Part) (pr : Proposal) : (p.consent pr).commit = p.commit := rfl
@[simp] theorem Part.consent_array (p : Part) (pr : Proposal) : (p.consent pr).array = p.array := rfl
@[simp] theorem Part.consent_journal (p : Part) (pr : Proposal) : (p.consent pr).journal = p.journal := rfl
@[simp] theorem Part.consent_ports (p : Part) (pr : Proposal) : (p.consent pr).ports = p.ports := rfl
@[simp] theorem Part.consent_freeCount (p : Part) (pr : Proposal) : (p.consent pr).freeCount = p.freeCount := rfl

/-! ## Part.discardProposal -/

@[simp] theorem Part.discardProposal_localTime (p : Part) : p.discardProposal.localTime = p.localTime := rfl
@[simp] theorem Part.discardProposal_failing (p : Part) : p.discardProposal.failing = p.failing := rfl
@[simp] theorem Part.discardProposal_restartCause (p : Part) : p.discardProposal.restartCause = p.restartCause := rfl
@[simp] theorem Part.discardProposal_receiver (p : Part) : p.discardProposal.receiver = p.receiver := rfl
@[simp] theorem Part.discardProposal_tracker (p : Part) : p.discardProposal.tracker = p.tracker := rfl
@[simp] theorem Part.discardProposal_engine (p : Part) : p.discardProposal.engine = p.engine := rfl
@[simp] theorem Part.discardProposal_classifier (p : Part) : p.discardProposal.classifier = p.classifier := rfl
@[simp] theorem Part.discardProposal_rvc (p : Part) : p.discardProposal.rvc = p.rvc := rfl
@[simp] theorem Part.discardProposal_folds (p : Part) : p.discardProposal.folds = p.folds := rfl
@[simp] theorem Part.discardProposal_aggregator (p : Part) : p.discardProposal.aggregator = p.aggregator := rfl
@[simp] theorem Part.discardProposal_recurrence (p : Part) : p.discardProposal.recurrence = p.recurrence := rfl
@[simp] theorem Part.discardProposal_capture (p : Part) : p.discardProposal.capture = p.capture := rfl
@[simp] theorem Part.discardProposal_commit (p : Part) : p.discardProposal.commit = p.commit := rfl
@[simp] theorem Part.discardProposal_array (p : Part) : p.discardProposal.array = p.array := rfl
@[simp] theorem Part.discardProposal_journal (p : Part) : p.discardProposal.journal = p.journal := rfl
@[simp] theorem Part.discardProposal_ports (p : Part) : p.discardProposal.ports = p.ports := rfl
@[simp] theorem Part.discardProposal_freeCount (p : Part) : p.discardProposal.freeCount = p.freeCount := rfl

/-! ## Part.markForced -/

@[simp] theorem Part.markForced_localTime (p : Part) : p.markForced.localTime = p.localTime := rfl
@[simp] theorem Part.markForced_failing (p : Part) : p.markForced.failing = p.failing := rfl
@[simp] theorem Part.markForced_restartCause (p : Part) : p.markForced.restartCause = p.restartCause := rfl
@[simp] theorem Part.markForced_receiver (p : Part) : p.markForced.receiver = p.receiver := rfl
@[simp] theorem Part.markForced_tracker (p : Part) : p.markForced.tracker = p.tracker := rfl
@[simp] theorem Part.markForced_engine (p : Part) : p.markForced.engine = p.engine := rfl
@[simp] theorem Part.markForced_classifier (p : Part) : p.markForced.classifier = p.classifier := rfl
@[simp] theorem Part.markForced_rvc (p : Part) : p.markForced.rvc = p.rvc := rfl
@[simp] theorem Part.markForced_folds (p : Part) : p.markForced.folds = p.folds := rfl
@[simp] theorem Part.markForced_aggregator (p : Part) : p.markForced.aggregator = p.aggregator := rfl
@[simp] theorem Part.markForced_recurrence (p : Part) : p.markForced.recurrence = p.recurrence := rfl
@[simp] theorem Part.markForced_capture (p : Part) : p.markForced.capture = p.capture := rfl
@[simp] theorem Part.markForced_commit (p : Part) : p.markForced.commit = p.commit := rfl
@[simp] theorem Part.markForced_array (p : Part) : p.markForced.array = p.array := rfl
@[simp] theorem Part.markForced_journal (p : Part) : p.markForced.journal = p.journal := rfl
@[simp] theorem Part.markForced_ports (p : Part) : p.markForced.ports = p.ports := rfl
@[simp] theorem Part.markForced_freeCount (p : Part) : p.markForced.freeCount = p.freeCount := rfl

/-! ## The machine -/

@[simp] theorem State.act_pending (s : State) (f : Part → Part) : (s.act f).pending = s.pending := rfl
@[simp] theorem State.act_pins (s : State) (f : Part → Part) : (s.act f).pins = s.pins := rfl
@[simp] theorem State.act_memory (s : State) (f : Part → Part) : (s.act f).memory = s.memory := rfl
@[simp] theorem State.act_recovering (s : State) (f : Part → Part) : (s.act f).recovering = s.recovering := rfl
@[simp] theorem State.act_part (s : State) (f : Part → Part) : (s.act f).part = f s.part := rfl
@[simp] theorem State.withPending_pins (s : State) (l : List Instr) : (s.withPending l).pins = s.pins := rfl
@[simp] theorem State.withPending_memory (s : State) (l : List Instr) : (s.withPending l).memory = s.memory := rfl
@[simp] theorem State.withPending_recovering (s : State) (l : List Instr) : (s.withPending l).recovering = s.recovering := rfl
@[simp] theorem State.withPending_part (s : State) (l : List Instr) : (s.withPending l).part = s.part := rfl
@[simp] theorem State.withPending_pending (s : State) (l : List Instr) : (s.withPending l).pending = l := rfl
@[simp] theorem State.withPending_alive (s : State) (l : List Instr) : (s.withPending l).alive = s.alive := rfl
@[simp] theorem State.act_alive (s : State) (f : Part → Part) : (s.act f).alive = s.alive := rfl

end Sys2Proof.Machine
end

