-- ==== Sys2Proof/Laws/Ops.lean ====
section
/-! SUPPORT. One lemma per shared operation that says once everything it can do. -/

namespace Sys2Proof

/-! ## Values by channel and by party -/

@[simp] theorem PerParty.get_set_same {α : Type} (t : PerParty α) (q : Party) (a : α) : (t.set q a).get q = a := by cases q <;> rfl

theorem PerParty.get_set {α : Type} (t : PerParty α) (q r : Party) (a : α) :
    (t.set q a).get r = if r = q then a else t.get r := by cases q <;> cases r <;> rfl

theorem PerParty.get_set_ne {α : Type} (t : PerParty α) {q r : Party} (a : α) (h : r ≠ q) : (t.set q a).get r = t.get r := by
  rw [PerParty.get_set, if_neg h]

@[simp] theorem PerParty.get_map {α β : Type} (f : α → β) (t : PerParty α) (q : Party) : (t.map f).get q = f (t.get q) := by cases q <;> rfl

@[simp] theorem PerParty.get_all {α : Type} (a : α) (q : Party) : (PerParty.all a).get q = a := by cases q <;> rfl

@[simp] theorem PerParty.set_set {α : Type} (t : PerParty α) (q : Party) (a b : α) : (t.set q a).set q b = t.set q b := by cases q <;> rfl

@[simp] theorem PerParty.set_get {α : Type} (t : PerParty α) (q : Party) : t.set q (t.get q) = t := by cases q <;> rfl

theorem PerParty.ext_get {α : Type} {t u : PerParty α} (h : ∀ q, t.get q = u.get q) : t = u := by
  cases t; cases u
  have h1 := h .supply; have h2 := h .premises; have h3 := h .field
  simp only [PerParty.get] at h1 h2 h3
  subst h1; subst h2; subst h3; rfl

@[simp] theorem Tri.get_build {α : Type} (f : Chan → α) (c : Chan) : (Tri.build f).get c = f c := by cases c <;> rfl

@[simp] theorem Tri.get_all {α : Type} (a : α) (c : Chan) : (Tri.all a).get c = a := by cases c <;> rfl

theorem Tri.ext_get {α : Type} {t u : Tri α} (h : ∀ c, t.get c = u.get c) : t = u := by
  cases t; cases u
  have h1 := h .c1; have h2 := h .c2; have h3 := h .c3
  simp only [Tri.get] at h1 h2 h3
  subst h1; subst h2; subst h3; rfl

theorem ChanSet.any_iff (s : ChanSet) (f : Chan → Bool) : s.any f = true ↔ ∃ c, s.get c = true ∧ f c = true := by
  simp only [ChanSet.any, Bool.or_eq_true, Bool.and_eq_true]
  constructor
  · rintro ((h | h) | h)
    · exact ⟨.c1, h⟩
    · exact ⟨.c2, h⟩
    · exact ⟨.c3, h⟩
  · rintro ⟨c, h⟩
    cases c
    · exact .inl (.inl h)
    · exact .inl (.inr h)
    · exact .inr h

theorem ChanSet.every_iff (s : ChanSet) (f : Chan → Bool) : s.every f = true ↔ ∀ c, s.get c = true → f c = true := by
  have key : ∀ a b : Bool, (!a || b) = true ↔ (a = true → b = true) := by decide
  simp only [ChanSet.every, Bool.and_eq_true, key]
  constructor
  · rintro ⟨⟨h1, h2⟩, h3⟩ c
    cases c
    · exact h1
    · exact h2
    · exact h3
  · intro h
    exact ⟨⟨h .c1, h .c2⟩, h .c3⟩

end Sys2Proof

namespace Sys2Proof.Machine

/-! ## Ports -/

@[simp] theorem Part.mapPort_get (p : Part) (q : Party) (f : Port → Port) : (p.mapPort q f).ports.get q = f (p.ports.get q) := by
  simp only [Part.mapPort, PerParty.get_set_same]

theorem Part.mapPort_get_ne (p : Part) {q r : Party} (f : Port → Port) (h : r ≠ q) :
    (p.mapPort q f).ports.get r = p.ports.get r := by
  simp only [Part.mapPort, PerParty.get_set_ne _ _ h]

@[simp] theorem Part.mapPorts_get (p : Part) (q : Party) (f : Port → Port) : (p.mapPorts f).ports.get q = f (p.ports.get q) := by
  simp only [Part.mapPorts, PerParty.get_map]

@[simp] theorem Part.mapPort_mapPort (p : Part) (q : Party) (f g : Port → Port) :
    (p.mapPort q f).mapPort q g = p.mapPort q (fun t => g (f t)) := by
  simp only [Part.mapPort, PerParty.get_set_same, PerParty.set_set]

@[simp] theorem Part.mapPort_id (p : Part) (q : Party) : p.mapPort q (fun t => t) = p := by
  simp only [Part.mapPort, PerParty.set_get]

/-- An answer replaces what the port's response and READY were before it (R173). -/
theorem Part.answer_mapPort (p : Part) (q : Party) (tag : Byte) (st : Status) (b : Body) (f : Port → Port) :
    (p.mapPort q f).answer q tag st b = p.mapPort q (fun t => { f t with response := some ⟨tag, st, b⟩, ready := true }) := by
  simp only [Part.answer, Part.mapPort_mapPort]

/-- With no request in progress, a new transfer changes the response alone (R173). -/
theorem Port.newTransfer_idle {t : Port} (h : t.inProgress = none) : t.newTransfer = { t with response := none } := by
  simp only [Port.newTransfer, h, Option.map_none]

/-- The answer to a request whose transfer has been opened and that finds none in progress (R173). -/
theorem Part.openTransfer_answer (p : Part) (q : Party) (tag : Byte) (st : Status) (b : Body)
    (h : (p.ports.get q).inProgress = none) : (p.openTransfer q).answer q tag st b = p.answer q tag st b := by
  simp only [Part.openTransfer, Part.answer_mapPort]
  simp only [Part.answer, Part.mapPort, Port.newTransfer_idle h]

/-! ## Notices (R189, R191) -/

/-- What an occurrence changes at a port: its notices and its ATTENTION line. -/
theorem Port.raise_frame (t : Port) (k : NoticeKind) (epoch frame : Nat) (d : Detail) :
    t.raise k epoch frame d =
      { t with notices := (t.raise k epoch frame d).notices, attention := (t.raise k epoch frame d).attention } := by
  simp only [Port.raise]
  split <;> rfl

/-- Whether a kind is pending at a port. -/
theorem Port.pendingNotice_isSome (t : Port) (k : NoticeKind) : (t.pendingNotice k).isSome = true ↔ k ∈ t.notices.map Notice.kind := by
  simp only [Port.pendingNotice, List.find?_isSome, decide_eq_true_eq, List.mem_map]

/-! ## The queues (R117 to R123) -/

/-- A recorder-class record takes the newest place of PRIORITY when there is room, and is withheld otherwise (R117, R118). -/
theorem Part.handRecord_cases (p : Part) (r : Rec) :
    (p.recorderRoom = true ∧ p.handRecord r = p.pushPriority r) ∨ (p.recorderRoom = false ∧ p.handRecord r = p.withhold r) := by
  simp only [Part.handRecord]
  cases h : p.recorderRoom
  · exact .inr ⟨rfl, rfl⟩
  · exact .inl ⟨rfl, rfl⟩

/-- A record handed to the commit path changes the queues and the ports alone. -/
theorem Part.handRecord_frame (p : Part) (r : Rec) :
    p.handRecord r = { p with commit := (p.handRecord r).commit, ports := (p.handRecord r).ports } := by
  simp only [Part.handRecord]
  split <;> rfl

/-- The port share has room below 16 records while the journal is not FAULTED (R120). -/
theorem Part.portRoom_iff (p : Part) : p.portRoom = true ↔ p.commit.priority.length < 16 ∧ p.isFaulted = false := by
  simp only [Part.portRoom, Bool.and_eq_true, Bool.not_eq_true']
  exact and_congr_left' decide_eq_true_iff

/-- A port-class record offered by the port share: admitted at the newest place, or refused (R120). -/
theorem Part.offer_eq_some {p p' : Part} {r : Rec} (h : p.offer r = some p') :
    p.commit.priority.length < 16 ∧ p.isFaulted = false ∧ p' = p.pushPriority r := by
  simp only [Part.offer] at h
  split at h
  · rename_i hr
    exact ⟨((Part.portRoom_iff p).1 hr).1, ((Part.portRoom_iff p).1 hr).2, (Option.some.inj h).symm⟩
  · cases h

/-- A refusal by the port share (R120). -/
theorem Part.offer_eq_none {p : Part} {r : Rec} : p.offer r = none ↔ 16 ≤ p.commit.priority.length ∨ p.isFaulted = true := by
  simp only [Part.offer]
  split
  · rename_i hr
    have h := (Part.portRoom_iff p).1 hr
    refine ⟨fun hn => absurd hn (Option.some_ne_none _), fun ho => ?_⟩
    rcases ho with h' | h'
    · omega
    · rw [h.2] at h'; cases h'
  · rename_i hr
    refine ⟨fun _ => ?_, fun _ => rfl⟩
    by_cases hl : p.commit.priority.length < 16
    · cases hf : p.isFaulted
      · exact absurd ((Part.portRoom_iff p).2 ⟨hl, hf⟩) hr
      · exact .inr rfl
    · exact .inl (by omega)

/-- An INTERVAL record enters BULK or is dropped and counted (R123). -/
theorem Part.handInterval_frame (p : Part) (r : Rec) :
    p.handInterval r = { p with commit := (p.handInterval r).commit, ports := (p.handInterval r).ports } := by
  simp only [Part.handInterval]
  split <;> rfl

/-- A note that is due enters PRIORITY below 16 records, and its port's note is IDLE; else nothing changes (R122). -/
theorem Part.admitNote_cases (p : Part) :
    (∃ q r, p.dueNote = some (q, r) ∧ p.portRoom = true ∧
      p.admitNote = (p.pushPriority r).mapPort q (fun t => { t with note := .idle })) ∨ (p.dueNote = none ∧ p.admitNote = p) := by
  simp only [Part.admitNote]
  cases h : p.dueNote with
  | none => exact .inr ⟨rfl, rfl⟩
  | some x =>
    refine .inl ⟨x.1, x.2, rfl, ?_, rfl⟩
    simp only [Part.dueNote] at h
    split at h
    · assumption
    · cases h

/-- A note that enters changes the queues and the ports alone (R122). -/
theorem Part.admitNote_frame (p : Part) : p.admitNote = { p with commit := p.admitNote.commit, ports := p.admitNote.ports } := by
  rcases p.admitNote_cases with ⟨q, r, -, -, h⟩ | ⟨-, h⟩ <;> rw [h] <;> rfl

/-- A note that enters leaves a port's request, response and stream as they were (R122). -/
theorem Part.admitNote_get (p : Part) (q : Party) :
    p.admitNote.ports.get q = { p.ports.get q with note := (p.admitNote.ports.get q).note } := by
  rcases p.admitNote_cases with ⟨r, x, -, -, h⟩ | ⟨-, h⟩ <;> rw [h]
  simp only [Part.mapPort, Part.pushPriority, PerParty.get_set]
  split
  · rename_i he; subst he; rfl
  · rfl

/-- What a freed entry of PRIORITY brings: the overflow summary's record; or a note that is due, unless a free value leaves the entry to a
request; or nothing (R119, R122). -/
theorem Part.entryFreed_cases (p : Part) :
    (∃ o, p.commit.overflow = some o ∧ p.entryFreed =
      { p with commit := { p.commit with overflow := none } }.pushPriority (p.buildRec .recorder p.nowFrame (.overflow o))) ∨
    (p.commit.overflow = none ∧
      ((p.dueNote = none ∧ p.entryFreed = p) ∨
        (p.dueNote.isSome = true ∧ (p.entryFreed = p.freeOrder.2 ∨ p.entryFreed = p.freeOrder.2.admitNote)))) := by
  simp only [Part.entryFreed]
  cases ho : p.commit.overflow with
  | some o => exact .inl ⟨o, rfl, rfl⟩
  | none =>
    refine .inr ⟨rfl, ?_⟩
    cases hd : p.dueNote with
    | none => exact .inl ⟨rfl, rfl⟩
    | some x =>
      refine .inr ⟨rfl, ?_⟩
      cases hc : p.freeOrder.1
      · exact .inl rfl
      · exact .inr rfl

/-- What a freed entry of PRIORITY brings changes the queues, the ports and the count of free values alone (R119, R122). -/
theorem Part.entryFreed_frame (p : Part) :
    p.entryFreed = { p with
      commit := p.entryFreed.commit, ports := p.entryFreed.ports, freeCount := p.entryFreed.freeCount } := by
  rcases p.entryFreed_cases with ⟨o, -, h⟩ | ⟨-, ⟨-, h⟩ | ⟨-, h | h⟩⟩ <;> rw [h]
  · rfl
  · rfl
  · rw [Part.admitNote_frame]; rfl

/-- A RELEASE record offered: where one of its party waits, it takes that one's place at the newest end, or a FAULTED journal refuses it;
else the port share decides (R121, R124). -/
theorem Part.offerRelease_cases (p : Part) (q : Party) (newMark prevMark : Nat) :
    (p.commit.priority.find? (isReleaseOf q) = none ∧
      p.offerRelease q newMark prevMark = p.offer (p.buildRec (.party q) p.nowFrame (.release q newMark prevMark))) ∨
    ∃ w, p.commit.priority.find? (isReleaseOf q) = some w ∧
      ((p.isFaulted = true ∧ p.offerRelease q newMark prevMark = none) ∨
        (p.isFaulted = false ∧ p.offerRelease q newMark prevMark = some { p with
          commit := { p.commit with
            priority := p.commit.priority.eraseP (isReleaseOf q) ++
              [p.buildRec (.party q) p.nowFrame (.release q newMark w.payload.previousMark)] }
          array := { p.array with chosenRelease := if p.hasChosenRelease q then some q else p.array.chosenRelease } })) := by
  simp only [Part.offerRelease]
  cases h : p.commit.priority.find? (isReleaseOf q) with
  | none => exact .inl ⟨rfl, rfl⟩
  | some w =>
    refine .inr ⟨w, rfl, ?_⟩
    cases hf : p.isFaulted
    · exact .inr ⟨rfl, rfl⟩
    · exact .inl ⟨rfl, rfl⟩

/-- The record that is taken waits in PRIORITY (R116, R124). -/
theorem Commit.mem_of_chosen {c : Commit} {release : Option Party} {r : Rec} (h : c.chosen release = some r) : r ∈ c.priority := by
  rcases Option.or_eq_some_iff.1 h with h' | ⟨-, h'⟩
  · cases release with
    | none => cases h'
    | some q => exact List.mem_of_find?_eq_some h'
  · exact List.mem_of_head? h'

/-- Without a replaced RELEASE the oldest record is taken (R116). -/
@[simp] theorem Commit.chosen_none (c : Commit) : c.chosen none = c.priority.head? := by
  simp [Commit.chosen]

/-- A PRIORITY record taken: the chosen one leaves the queue for the writer's hand and its entry is freed; nothing where none waits
(R116, R119, R122, R124, R125). -/
theorem Part.takePriority_cases (p : Part) :
    (p.commit.chosen p.array.chosenRelease = none ∧ p.takePriority = p) ∨
    ∃ r, p.commit.chosen p.array.chosenRelease = some r ∧ r ∈ p.commit.priority ∧ p.takePriority = Part.entryFreed { p with
      commit := { p.commit with
        priority := p.commit.priority.erase r, inHand := some r
        credit := creditAfter p.profile.inForce.weight p.commit.credit }
      array := { p.array with chosenRelease := none } } := by
  simp only [Part.takePriority]
  cases h : p.commit.chosen p.array.chosenRelease with
  | none => exact .inl ⟨rfl, rfl⟩
  | some r => exact .inr ⟨r, rfl, Commit.mem_of_chosen h, rfl⟩

/-- The withdrawal of an erase called for at step 3: nothing, or the journal state that the adoption found (R141, R168; log entry 43). -/
theorem Part.withdrawErase_cases (p : Part) (old : Profile) (found : JournalState) :
    (changesReclaim old p.profile.inForce = true ∧ p.journal.state = .erasing ∧
      p.withdrawErase old found = { p with journal := { p.journal with state := found } }) ∨
    ((changesReclaim old p.profile.inForce = false ∨ p.journal.state ≠ .erasing) ∧ p.withdrawErase old found = p) := by
  simp only [Part.withdrawErase, Part.isErasing, Part.setJournalState]
  cases changesReclaim old p.profile.inForce <;> by_cases h : p.journal.state = .erasing <;> simp [h]

/-- Two orders that a free value decides: one of them, taken with the count of free values as it was or one higher (log entry 7). -/
theorem Part.either_cases (p : Part) (a b : Part → Part) :
    p.either a b = a p ∨ p.either a b = a p.freeOrder.2 ∨ p.either a b = b p.freeOrder.2 := by
  simp only [Part.either]
  split
  · exact .inl rfl
  · split
    · exact .inr (.inl rfl)
    · exact .inr (.inr rfl)

/-! ## Slots and copies -/

/-- When a gap is found after a trigger frame, and which frame its hold starts at (R106, R109). -/
theorem Part.gapAfter_eq_some {p : Part} {triggerFrame accepted : Nat} : p.gapAfter triggerFrame = some accepted ↔
    p.capture.resumed = some accepted ∧ p.receiver.delivered = true ∧ triggerFrame < accepted := by
  simp [Part.gapAfter, Option.filter_eq_some_iff]

/-- No gap is found after a trigger frame: none has come since, or no frame was delivered. -/
theorem Part.gapAfter_eq_none {p : Part} {triggerFrame : Nat} : p.gapAfter triggerFrame = none ↔
    (p.receiver.delivered = true → ∀ a, p.capture.resumed = some a → a ≤ triggerFrame) := by
  simp only [Part.gapAfter, Option.filter_eq_none_iff, Bool.and_eq_true, decide_eq_true_eq, not_and, Nat.not_lt]
  exact ⟨fun h hd a ha => h a ha hd, fun h a ha hd => h hd a ha⟩

/-- A compaction goes on to its next copy while its settings sequence is assigned (R148). -/
theorem Part.numberNextCopy_of_le {p : Part} (h : p.journal.nextSettings ≤ lastSequence) : p.numberNextCopy = p := by
  simp only [Part.numberNextCopy]
  split
  · rw [if_neg (Nat.not_lt.2 h)]
  · rfl

/-- A compaction without a copy left needs no settings sequence. -/
theorem Part.numberNextCopy_of_done {p : Part} (h : ∀ x rest slot, p.journal.compaction ≠ some ⟨x :: rest, slot⟩) :
    p.numberNextCopy = p := by
  simp only [Part.numberNextCopy]

/-- A copy left without a settings sequence faults the journal (R148). -/
theorem Part.numberNextCopy_of_lt {p : Part} {x : Setting × Bool} {rest : List (Setting × Bool)} {slot : Nat}
    (hc : p.journal.compaction = some ⟨x :: rest, slot⟩) (h : lastSequence < p.journal.nextSettings) :
    p.numberNextCopy = p.fault .sequencesExhausted := by
  simp only [Part.numberNextCopy, hc, if_pos h]

/-! ## The end of every command (log entry 9) -/

/-- A part that waits for no restart: the arbiter alone ends the command. -/
theorem State.finish_of_not_recovering {s : State} (h : s.recovering = false) : s.finish = s.act Part.arbitrate := by
  simp [State.finish, State.recoverAtOnce, State.act, h]

/-- A command on a part that is not alive changes nothing (log entry 27). -/
theorem State.run_of_not_alive {s : State} (body : State → State) (h : s.alive = false) : s.run body = s := by
  simp [State.run, h]

/-- A command on a part that is alive: the outstanding steps, the command's own effect, the end of the command. -/
theorem State.runPart_of_alive {s : State} (f : Part → Part) (h : s.alive = true) : s.runPart f = s.leaves (f s.found) := by
  simp only [State.runPart, State.run, State.leaves, State.found, State.entered, h, if_true]
  rfl

/-- A request that may offer a port-class record, on a part that is alive: the outstanding steps, its own effect, a note that is still due,
the end of the command (R122). -/
theorem State.runOffer_of_alive {s : State} (f : Part → Part) (h : s.alive = true) : s.runOffer f = s.leavesAsked (f s.asked) := by
  simp only [State.runOffer, State.leavesAsked, State.leaves, State.asked, h, if_true]
  rfl

/-- A due step run as its own command on a part that is alive. -/
theorem State.runDue_of_alive {s : State} (f : Part → Part) (h : s.alive = true) : s.runDue f = s.leaves (f s.entered) := by
  simp only [State.runDue, State.leaves, State.entered, h, if_true]
  rfl

/-- A request that checks 4 and 5 pass is taken: its body runs on the part with the transfer opened (R172). -/
theorem Part.request_taken {p : Part} {q : Party} (tag : Byte) (body : Part → Part) (hs : p.isStarting = false)
    (hi : (p.ports.get q).inProgress = none) : p.request q tag body = body (p.openTransfer q) := by
  have h1 : ((p.openTransfer q).ports.get q).inProgress = none := by
    simp only [Part.openTransfer, Part.mapPort_get, Port.newTransfer, hi, Option.map_none]
  have h2 : (p.openTransfer q).isStarting = false := hs
  simp [Part.request, Part.gateBusy, Part.gateStarting, h1, h2]

end Sys2Proof.Machine
end

