-- ==== Sys2Proof/Laws/Frames.lean ====
section
/-! SUPPORT. What the measuring blocks leave alone: `Part.Measured p q` says that `q` is `p` but for the tracker, the engine, the classifier, the RVC monitor, the folds, the aggregator, the table, the slots, the queues, the profile, the ring's control fields and the ports' notices. Every measuring operation keeps it. -/

namespace Sys2Proof.Machine

set_option Elab.async false

/-- The journal fields that no measuring operation changes. -/
structure Journal.Kept (j k : Journal) : Prop where
  newest : k.newest = j.newest
  failureCount : k.failureCount = j.failureCount
  faultCause : k.faultCause = j.faultCause
  settingsActive : k.settingsActive = j.settingsActive
  settingsSlot : k.settingsSlot = j.settingsSlot
  nextSettings : k.nextSettings = j.nextSettings
  compaction : k.compaction = j.compaction
  epochBase : k.epochBase = j.epochBase
  sectors : k.sectors = j.sectors
  openSector : k.openSector = j.openSector
  writeSlot : k.writeSlot = j.writeSlot
  starting : k.state = .starting ↔ j.state = .starting
  faulted : k.state = .faulted ↔ j.state = .faulted

theorem Journal.Kept.refl (j : Journal) : j.Kept j :=
  ⟨rfl, rfl, rfl, rfl, rfl, rfl, rfl, rfl, rfl, rfl, rfl, Iff.rfl, Iff.rfl⟩

theorem Journal.Kept.trans {j k l : Journal} (a : j.Kept k) (b : k.Kept l) : j.Kept l :=
  ⟨b.newest.trans a.newest, b.failureCount.trans a.failureCount, b.faultCause.trans a.faultCause,
   b.settingsActive.trans a.settingsActive, b.settingsSlot.trans a.settingsSlot, b.nextSettings.trans a.nextSettings,
   b.compaction.trans a.compaction, b.epochBase.trans a.epochBase, b.sectors.trans a.sectors,
   b.openSector.trans a.openSector, b.writeSlot.trans a.writeSlot, b.starting.trans a.starting, b.faulted.trans a.faulted⟩

/-- A port that differs from another in its notices and its ATTENTION line at most. -/
def Port.Noticed (t u : Port) : Prop := u = { t with notices := u.notices, attention := u.attention }

theorem Port.Noticed.refl (t : Port) : t.Noticed t := rfl

theorem Port.Noticed.trans {t u v : Port} (a : t.Noticed u) (b : u.Noticed v) : t.Noticed v := by
  unfold Port.Noticed at *
  rw [a] at b
  exact b

/-- What a measuring operation leaves alone. -/
structure Part.Measured (p q : Part) : Prop where
  localTime : q.localTime = p.localTime
  failing : q.failing = p.failing
  restartCause : q.restartCause = p.restartCause
  receiver : q.receiver = p.receiver
  ring : q.capture.ring = p.capture.ring
  array : q.array = p.array
  inHand : q.commit.inHand = p.commit.inHand
  journal : p.journal.Kept q.journal
  ports : ∀ r, (p.ports.get r).Noticed (q.ports.get r)

theorem Part.Measured.refl (p : Part) : p.Measured p :=
  ⟨rfl, rfl, rfl, rfl, rfl, rfl, rfl, Journal.Kept.refl _, fun _ => rfl⟩

theorem Part.Measured.trans {p q r : Part} (a : p.Measured q) (b : q.Measured r) : p.Measured r :=
  ⟨b.localTime.trans a.localTime, b.failing.trans a.failing, b.restartCause.trans a.restartCause, b.receiver.trans a.receiver,
   b.ring.trans a.ring, b.array.trans a.array, b.inHand.trans a.inHand, a.journal.trans b.journal,
   fun x => (a.ports x).trans (b.ports x)⟩

/-- An update of fields that `Measured` does not mention. -/
theorem Part.Measured.update {p q : Part} (h1 : q.localTime = p.localTime := by rfl) (h2 : q.failing = p.failing := by rfl)
    (h3 : q.restartCause = p.restartCause := by rfl) (h4 : q.receiver = p.receiver := by rfl)
    (h5 : q.capture.ring = p.capture.ring := by rfl) (h6 : q.array = p.array := by rfl)
    (h7 : q.commit.inHand = p.commit.inHand := by rfl) (h8 : q.journal = p.journal := by rfl) (h9 : q.ports = p.ports := by rfl) :
    p.Measured q :=
  ⟨h1, h2, h3, h4, h5, h6, h7, h8 ▸ Journal.Kept.refl _, fun _ => h9 ▸ rfl⟩

theorem Part.Measured.isStarting {p q : Part} (h : p.Measured q) : q.isStarting = p.isStarting := by
  simp only [Part.isStarting, h.journal.starting]

theorem Part.Measured.isFaulted {p q : Part} (h : p.Measured q) : q.isFaulted = p.isFaulted := by
  simp only [Part.isFaulted, h.journal.faulted]

theorem Part.Measured.nowFrame {p q : Part} (h : p.Measured q) : q.nowFrame = p.nowFrame := by
  simp only [Part.nowFrame, h.receiver]

/-- A measuring operation does not touch a port's requests. -/
theorem Part.Measured.inProgress {p q : Part} (h : p.Measured q) (r : Party) :
    (q.ports.get r).inProgress = (p.ports.get r).inProgress := by
  rw [h.ports r]

/-! ## Notices and queues -/

theorem Port.raise_noticed (t : Port) (k : NoticeKind) (epoch frame : Nat) (d : Detail) : t.Noticed (t.raise k epoch frame d) :=
  Port.raise_frame t k epoch frame d

theorem Part.raiseAll_measured (p : Part) (k : NoticeKind) (d : Detail) : p.Measured (p.raiseAll k d) := by
  refine ⟨rfl, rfl, rfl, rfl, rfl, rfl, rfl, Journal.Kept.refl _, fun r => ?_⟩
  simp only [Part.raiseAll, Part.mapPorts_get]
  exact Port.raise_noticed _ _ _ _ _

theorem Part.raiseAt_measured (p : Part) (q : Party) (k : NoticeKind) (d : Detail) : p.Measured (p.raiseAt q k d) := by
  refine ⟨rfl, rfl, rfl, rfl, rfl, rfl, rfl, Journal.Kept.refl _, fun r => ?_⟩
  by_cases h : r = q
  · subst h
    simp only [Part.raiseAt, Part.mapPort_get]
    exact Port.raise_noticed _ _ _ _ _
  · simp only [Part.raiseAt, Part.mapPort_get_ne _ _ h]
    exact Port.Noticed.refl _

theorem Part.pushPriority_measured (p : Part) (r : Rec) : p.Measured (p.pushPriority r) := Part.Measured.update

theorem Part.withhold_measured (p : Part) (r : Rec) : p.Measured (p.withhold r) := by
  unfold Part.withhold
  refine Part.Measured.trans ?_ (Part.raiseAll_measured _ _ _)
  exact Part.Measured.update

theorem Part.handRecord_measured (p : Part) (r : Rec) : p.Measured (p.handRecord r) := by
  rcases p.handRecord_cases r with ⟨-, h⟩ | ⟨-, h⟩ <;> rw [h]
  · exact p.pushPriority_measured r
  · exact p.withhold_measured r

theorem Part.handInterval_measured (p : Part) (r : Rec) : p.Measured (p.handInterval r) := by
  simp only [Part.handInterval]
  split
  · exact Part.Measured.update
  · refine Part.Measured.trans ?_ (Part.raiseAll_measured _ _ _)
    exact Part.Measured.update

/-! ## Folds, events, captures -/

theorem Part.setFold_measured (p : Part) (t : FoldType) (m : Fold) : p.Measured (p.setFold t m) := Part.Measured.update

theorem Part.drawNumber_measured (p : Part) : p.Measured p.drawNumber.2 := Part.Measured.update

theorem Part.foldDecision_measured (p : Part) (t : FoldType) (d : Option Nat) : p.Measured (p.foldDecision t d).2 := by
  simp only [Part.foldDecision]
  split
  · split
    · exact Part.Measured.refl p
    · exact Part.Measured.update
  · exact Part.Measured.update

theorem Part.handBurst_measured (p : Part) (t : FoldType) (c : FoldClosure) (frame : Nat) : p.Measured (p.handBurst t c frame) := by
  simp only [Part.handBurst]
  split
  · exact Part.handRecord_measured _ _
  · exact Part.Measured.refl p

theorem Part.handBursts_measured (p : Part) (c : FoldClosure) (frame : Nat) : p.Measured (p.handBursts c frame) :=
  ((p.handBurst_measured _ _ _).trans (Part.handBurst_measured _ _ _ _)).trans (Part.handBurst_measured _ _ _ _)

theorem Part.closeFolds_measured (p : Part) (frame : Nat) : p.Measured (p.closeFolds frame) := by
  refine (p.handBursts_measured .profile frame).trans ?_
  exact Part.Measured.update

theorem Part.quietClose_measured (p : Part) (t : FoldType) : p.Measured (p.quietClose t) :=
  (p.handBurst_measured _ _ _).trans (Part.setFold_measured _ _ _)

theorem Part.settleFold_measured (p : Part) (t : FoldType) : p.Measured (p.settleFold t) := by
  simp only [Part.settleFold]
  split
  · exact p.quietClose_measured t
  · exact Part.Measured.refl p

theorem Part.settleFolds_measured (p : Part) : p.Measured p.settleFolds :=
  ((p.settleFold_measured _).trans (Part.settleFold_measured _ _)).trans (Part.settleFold_measured _ _)

theorem Part.endFilling_measured (p : Part) (serial hold : Nat) (tr : Bool) : p.Measured (p.endFilling serial hold tr) := by
  simp only [Part.endFilling]
  split
  · exact Part.Measured.update
  · refine Part.Measured.trans ?_ (Part.handRecord_measured _ _)
    exact Part.Measured.update

theorem Part.takeSlot_measured {p : Part} {tr : Trigger} {ev : Option Nat} {o : Origin} {f : Nat} {a : Nat × Nat} {q : Part}
    (h : p.takeSlot tr ev o f = some (a, q)) : p.Measured q := by
  simp only [Part.takeSlot] at h
  split at h
  · cases h
  · split at h <;> (cases h)
    · refine Part.Measured.trans ?_ (Part.endFilling_measured _ _ _ _)
      exact Part.Measured.update
    · exact Part.Measured.update

theorem Part.takeOrRefuse_measured (p : Part) (tr : Trigger) (n f : Nat) : p.Measured (p.takeOrRefuse tr n f).2 := by
  simp only [Part.takeOrRefuse]
  split
  · rename_i h
    exact Part.takeSlot_measured h
  · exact p.raiseAll_measured _ _

theorem Part.requestCapture_measured (p : Part) (tr : Trigger) (n : Nat) (l : Option Nat) (f : Nat) :
    p.Measured (p.requestCapture tr n l f).2 := by
  simp only [Part.requestCapture]
  split
  · exact Part.Measured.refl p
  · exact p.takeOrRefuse_measured _ _ _

theorem Part.extendOrEnd_measured (p : Part) (i : Nat) : p.Measured (p.extendOrEnd i) := by
  simp only [Part.extendOrEnd]
  split
  · exact Part.Measured.refl p
  · split
    · exact Part.Measured.update
    · exact p.endFilling_measured _ _ _

theorem Part.expire_measured (p : Part) (i : Nat) : p.Measured (p.expire i) := by
  simp only [Part.expire]
  split
  · exact Part.Measured.update
  · exact Part.Measured.refl p

/-- A chain of measuring operations over a list. -/
theorem Part.foldl_measured {α : Type} (f : Part → α → Part) (hf : ∀ (p : Part) (a : α), p.Measured (f p a)) (l : List α) (p : Part) :
    p.Measured (l.foldl f p) := by
  induction l generalizing p with
  | nil => exact Part.Measured.refl p
  | cons a l ih => exact (hf p a).trans (ih (f p a))

theorem Part.captureStop_measured (p : Part) : p.Measured p.captureStop :=
  Part.foldl_measured _ (fun q _ => q.endFilling_measured _ _ _) _ p

theorem Part.lookup_measured (p : Part) (t : EventType) (cs : ChanSet) (x h stop : Nat) : p.Measured (p.lookup t cs x h stop).2 := by
  simp only [Part.lookup]
  split
  · split
    · split
      · refine Part.Measured.trans ?_ (Part.raiseAll_measured _ _ _)
        exact Part.Measured.update
      · exact Part.Measured.update
    · exact Part.Measured.refl p
  · exact Part.Measured.update

theorem Part.setMachine_measured (p : Part) (t : EventType) (e : Option OpenEvent) : p.Measured (p.setMachine t e) :=
  Part.Measured.update

theorem Part.foldEnded_measured (p : Part) (t : EventType) (e : OpenEvent) (c : Close) : p.Measured (p.foldEnded t e c) := by
  simp only [Part.foldEnded]
  split
  · exact Part.Measured.refl p
  · exact p.setFold_measured _ _

theorem Part.closeEvent_measured (p : Part) (t : EventType) (e : OpenEvent) (c : Close) : p.Measured (p.closeEvent t e c) := by
  have h := ((p.lookup_measured t e.chans e.extreme c.halfCycles c.lookupEnd).trans (Part.foldEnded_measured _ t e c)).trans
    (Part.setMachine_measured _ t none)
  simp only [Part.closeEvent]
  split
  · exact h
  · exact h.trans (Part.handRecord_measured _ _)

theorem Part.closeStep_measured (p : Part) (vs : ValueSet) (t : EventType) : p.Measured (p.closeStep vs t) := by
  simp only [Part.closeStep]
  split
  · exact Part.Measured.refl p
  · split
    · exact Part.Measured.refl p
    · exact p.closeEvent_measured _ _ _

theorem Part.closeSteps_measured (p : Part) (vs : ValueSet) : p.Measured (p.closeSteps vs) :=
  ((p.closeStep_measured _ _).trans (Part.closeStep_measured _ _ _)).trans (Part.closeStep_measured _ _ _)

theorem Part.linkDip_measured (p : Part) (t : EventType) (n : Nat) : p.Measured (p.linkDip t n) := by
  cases t
  · exact Part.Measured.refl p
  · exact Part.Measured.refl p
  · exact p.setMachine_measured _ _

theorem Part.openRecorded_measured (p : Part) (t : EventType) (vs : ValueSet) : p.Measured (p.openRecorded t vs) := by
  simp only [Part.openRecorded]
  exact (((p.drawNumber_measured.trans (Part.linkDip_measured _ _ _)).trans (Part.setMachine_measured _ _ _)).trans
    (Part.requestCapture_measured _ _ _ _ _)).trans (Part.setMachine_measured _ _ _)

theorem Part.openEvent_measured (p : Part) (t : EventType) (vs : ValueSet) : p.Measured (p.openEvent t vs) := by
  simp only [Part.openEvent]
  split
  · exact p.openRecorded_measured _ _
  · split
    · exact (p.foldDecision_measured _ _).trans (Part.setMachine_measured _ _ _)
    · exact (p.foldDecision_measured _ _).trans (Part.openRecorded_measured _ _ _)

theorem Part.openStep_measured (p : Part) (vs : ValueSet) (t : EventType) : p.Measured (p.openStep vs t) := by
  simp only [Part.openStep]
  split
  · exact Part.Measured.refl p
  · split
    · exact p.openEvent_measured _ _
    · exact Part.Measured.refl p

theorem Part.openSteps_measured (p : Part) (vs : ValueSet) : p.Measured (p.openSteps vs) :=
  ((p.openStep_measured _ _).trans (Part.openStep_measured _ _ _)).trans (Part.openStep_measured _ _ _)

theorem Part.classify_measured (p : Part) (vs : ValueSet) : p.Measured (p.classify vs).2 := by
  simp only [Part.classify]
  refine Part.Measured.trans ?_ ((Part.closeSteps_measured _ vs).trans (Part.openSteps_measured _ vs))
  exact Part.Measured.update

theorem Part.forceStep_measured (p : Part) (frame : Nat) (t : EventType) : p.Measured (p.forceStep frame t) := by
  simp only [Part.forceStep]
  split
  · exact Part.Measured.refl p
  · exact p.closeEvent_measured _ _ _

theorem Part.forceClose_measured (p : Part) (frame : Nat) : p.Measured (p.forceClose frame) :=
  ((p.forceStep_measured _ _).trans (Part.forceStep_measured _ _ _)).trans (Part.forceStep_measured _ _ _)

theorem Part.failStep_measured (p : Part) (t : EventType) : p.Measured (p.failStep t) := by
  simp only [Part.failStep]
  split
  · exact Part.Measured.refl p
  · exact p.closeEvent_measured _ _ _

theorem Part.failClose_measured (p : Part) : p.Measured p.failClose :=
  ((p.failStep_measured _).trans (Part.failStep_measured _ _)).trans (Part.failStep_measured _ _)

/-! ## The RVC monitor -/

theorem Part.forgetCandidate_measured (p : Part) : p.Measured p.forgetCandidate := by
  simp only [Part.forgetCandidate]
  split
  · exact p.setFold_measured _ _
  · exact Part.Measured.refl p

theorem Part.rvcRestart_measured (p : Part) : p.Measured p.rvcRestart := by
  refine p.forgetCandidate_measured.trans ?_
  exact Part.Measured.update

theorem Part.rvcEnd_measured (p : Part) (vs : ValueSet) : p.Measured (p.rvcEnd vs) := by
  simp only [Part.rvcEnd]
  refine (p.foldDecision_measured .rvc p.folds.rvc.startDistance).trans ?_
  split
  · exact Part.Measured.update
  · refine Part.Measured.trans ?_ (Part.handRecord_measured _ _)
    exact Part.Measured.update

theorem Part.rvcHandle_measured (p : Part) (vs : ValueSet) (o : Outcome) : p.Measured (p.rvcHandle vs o) := by
  simp only [Part.rvcHandle]
  split
  · exact p.rvcRestart_measured
  · split
    · split
      · exact Part.Measured.update
      · exact Part.Measured.refl p
    · split
      · exact Part.Measured.update
      · simp only [Part.rvcSteady]
        split
        · exact Part.Measured.update
        · exact Part.Measured.update
      · simp only [Part.rvcFollow]
        split
        · refine Part.Measured.trans ?_ (Part.rvcEnd_measured _ _)
          exact Part.Measured.update
        · exact Part.Measured.update

theorem Part.settleCandidate_measured (p : Part) : p.Measured p.settleCandidate := by
  simp only [Part.settleCandidate]
  split
  · exact p.rvcRestart_measured
  · exact Part.Measured.refl p

/-! ## The aggregator and the tail -/

/-- An evaluation leaves a WRITING or BLOCKED journal WRITING, ERASING or BLOCKED (R140). -/
theorem Part.evaluateTail_measured (p : Part) : p.Measured p.evaluateTail := by
  simp only [Part.evaluateTail]
  split
  · rename_i h
    simp only [Part.evaluationDecides, Bool.and_eq_true, Bool.or_eq_true, decide_eq_true_eq] at h
    have hs : ¬ p.journal.state = .starting ∧ ¬ p.journal.state = .faulted := by
      rcases h.2 with h | h <;> rw [h] <;> exact ⟨by decide, by decide⟩
    split
    · refine ⟨rfl, rfl, rfl, rfl, rfl, rfl, rfl, ⟨rfl, rfl, rfl, rfl, rfl, rfl, rfl, rfl, rfl, rfl, rfl, ?_, ?_⟩, fun _ => rfl⟩
      · exact ⟨fun h => (nomatch h), fun h => absurd h hs.1⟩
      · exact ⟨fun h => (nomatch h), fun h => absurd h hs.2⟩
    · split
      · exact Part.Measured.refl p
      · refine Part.Measured.trans ?_ (Part.raiseAll_measured _ _ _)
        refine ⟨rfl, rfl, rfl, rfl, rfl, rfl, rfl, ⟨rfl, rfl, rfl, rfl, rfl, rfl, rfl, rfl, rfl, rfl, rfl, ?_, ?_⟩, fun _ => rfl⟩
        · exact ⟨fun h => (nomatch h), fun h => absurd h hs.1⟩
        · exact ⟨fun h => (nomatch h), fun h => absurd h hs.2⟩
  · exact Part.Measured.refl p

theorem Part.ageTable_measured (p : Part) (close : Nat) : p.Measured (p.ageTable close) := Part.Measured.update

theorem Part.assign_measured (p : Part) (vs : ValueSet) (o : Outcome) : p.Measured (p.assign vs o) := Part.Measured.update

theorem Part.closeInterval_measured (p : Part) (frame : Nat) : p.Measured (p.closeInterval frame) :=
  ((p.handInterval_measured _).trans (Part.ageTable_measured _ _)).trans (Part.evaluateTail_measured _)

theorem Part.closeGrid_measured (p : Part) (boundary : Nat) : p.Measured (p.closeGrid boundary) := by
  refine (p.closeInterval_measured boundary).trans ?_
  exact Part.Measured.update

theorem Part.adoptionClose_measured (p : Part) (frame : Nat) : p.Measured (p.adoptionClose frame) :=
  Part.Measured.trans Part.Measured.update (Part.closeInterval_measured _ frame)

/-! ## Adoption -/

theorem Journal.enrol_kept (j : Journal) (old new : Profile) (q : Party) : j.Kept (j.enrol old new q) := by
  simp only [Journal.enrol]
  split
  · cases q <;> exact ⟨rfl, rfl, rfl, rfl, rfl, rfl, rfl, rfl, rfl, rfl, rfl, Iff.rfl, Iff.rfl⟩
  · cases q <;> exact ⟨rfl, rfl, rfl, rfl, rfl, rfl, rfl, rfl, rfl, rfl, rfl, Iff.rfl, Iff.rfl⟩
  · exact Journal.Kept.refl j
  · exact Journal.Kept.refl j

theorem Part.addSetting_measured (p : Part) (e : PendingSetting) : p.Measured (p.addSetting e) := by
  simp only [Part.addSetting]
  split
  · split
    · exact p.handRecord_measured _
    · exact Part.Measured.refl p
  · exact ⟨rfl, rfl, rfl, rfl, rfl, rfl, rfl, ⟨rfl, rfl, rfl, rfl, rfl, rfl, rfl, rfl, rfl, rfl, rfl, Iff.rfl, Iff.rfl⟩, fun _ => rfl⟩

theorem Part.addEnrolmentMark_measured (p : Part) (old : Profile) (q : Party) : p.Measured (p.addEnrolmentMark old q) := by
  simp only [Part.addEnrolmentMark]
  split
  · split
    · exact p.addSetting_measured _
    · exact Part.Measured.refl p
  · exact Part.Measured.refl p

theorem Part.takeUp_measured (p : Part) (new : Profile) (frame : Nat) (forced : Bool) : p.Measured (p.takeUp new frame forced) := by
  refine ⟨rfl, rfl, rfl, rfl, rfl, rfl, ?_, (Journal.enrol_kept _ _ _ _).trans (Journal.enrol_kept _ _ _ _), fun _ => rfl⟩
  simp only [Part.takeUp, Commit.adopt]
  split <;> rfl

/-- A withdrawn erase leaves the journal as the adoption found it, which was neither STARTING nor FAULTED. -/
theorem Part.withdrawErase_measured (p : Part) (old : Profile) (found : JournalState)
    (hs : p.journal.state = .starting ↔ found = .starting) (hf : p.journal.state = .faulted ↔ found = .faulted) :
    p.Measured (p.withdrawErase old found) := by
  simp only [Part.withdrawErase]
  split
  · exact ⟨rfl, rfl, rfl, rfl, rfl, rfl, rfl, ⟨rfl, rfl, rfl, rfl, rfl, rfl, rfl, rfl, rfl, rfl, rfl, hs.symm, hf.symm⟩, fun _ => rfl⟩
  · exact Part.Measured.refl p

theorem Part.forceEnd_measured (p : Part) (frame : Nat) (forced : Bool) : p.Measured (p.forceEnd frame forced) := by
  simp only [Part.forceEnd]
  split
  · exact (p.forceClose_measured frame).trans (Part.forgetCandidate_measured _)
  · exact Part.Measured.refl p

theorem Part.clearTable_measured (p : Part) (new : Profile) : p.Measured (p.clearTable new) := by
  simp only [Part.clearTable]
  split
  · exact Part.Measured.update
  · exact Part.Measured.refl p

theorem Part.addAdoptionEntries_measured (p : Part) (old : Profile) (pr : Proposal) (frame : Nat) (forced : Bool) :
    p.Measured (p.addAdoptionEntries old pr frame forced) :=
  ((p.addSetting_measured _).trans (Part.addEnrolmentMark_measured _ _ _)).trans (Part.addEnrolmentMark_measured _ _ _)

theorem Part.endAdoption_measured (p : Part) : p.Measured p.endAdoption := by
  simp only [Part.endAdoption]
  refine Part.Measured.trans ?_ (Part.raiseAll_measured _ _ _)
  exact Part.Measured.update

theorem Part.adopt_measured (p : Part) (pr : Proposal) (frame : Nat) (forced : Bool) : p.Measured (p.adopt pr frame forced) := by
  simp only [Part.adopt]
  have h := ((((p.forceEnd_measured frame forced).trans (Part.closeFolds_measured _ frame)).trans
    (Part.adoptionClose_measured _ frame)).trans (Part.clearTable_measured _ pr.contents)).trans
    (Part.takeUp_measured _ pr.contents frame forced)
  exact (((h.trans (Part.withdrawErase_measured _ _ _ h.journal.starting h.journal.faulted)).trans
    (Part.addAdoptionEntries_measured _ _ _ _ _)).trans (Part.evaluateTail_measured _)).trans (Part.endAdoption_measured _)

theorem Part.forceAdoption_measured (p : Part) : p.Measured p.forceAdoption := by
  simp only [Part.forceAdoption]
  split
  · exact p.adopt_measured _ _ _
  · exact Part.Measured.refl p

theorem Part.boundaryAdoption_measured (p : Part) (boundary : Nat) : p.Measured (p.boundaryAdoption boundary) := by
  simp only [Part.boundaryAdoption]
  have h := p.settleCandidate_measured.trans (Part.settleFolds_measured _)
  split
  · split
    · exact h
    · exact h.trans (Part.adopt_measured _ _ _ _)
  · exact Part.Measured.refl p

/-! ## Boundaries -/

theorem Part.freeOrder_measured (p : Part) : p.Measured p.freeOrder.2 := Part.Measured.update

theorem Part.either_measured (p : Part) (a b : Part → Part) (ha : ∀ q : Part, q.Measured (a q)) (hb : ∀ q : Part, q.Measured (b q)) :
    p.Measured (p.either a b) := by
  rcases p.either_cases a b with h | h | h <;> rw [h]
  · exact ha p
  · exact p.freeOrder_measured.trans (ha _)
  · exact p.freeOrder_measured.trans (hb _)

theorem Part.measure_measured (vs : ValueSet) (first : Bool) (p : Part) : p.Measured (p.measure vs first) := by
  simp only [Part.measure]
  have step1 : ∀ (c : Bool) (q : Part), q.Measured (if c = true then q.closeGrid vs.result.boundary else q) := by
    intro c q
    split
    · exact q.closeGrid_measured _
    · exact Part.Measured.refl q
  exact (((step1 _ p).trans ((Part.classify_measured _ vs).trans (Part.rvcHandle_measured _ vs _))).trans (step1 _ _)).trans
    (Part.assign_measured _ vs _)

theorem Part.valueSet_measured (r : HalfCycle) (p : Part) : p.Measured (p.valueSet r) := by
  simp only [Part.valueSet]
  refine Part.Measured.trans ?_ (Part.either_measured _ _ _ (Part.measure_measured _ true) (Part.measure_measured _ false))
  exact Part.Measured.update

theorem Part.emit_measured (p : Part) (r : HalfCycle) (record : Option Payload) : p.Measured (p.emit r record) := by
  simp only [Part.emit]
  split
  · exact p.valueSet_measured r
  · exact p.either_measured _ _ (fun q => (q.handRecord_measured _).trans (Part.valueSet_measured r _))
      (fun q => (q.valueSet_measured r).trans (Part.handRecord_measured _ _))

theorem Part.boundary_measured (p : Part) (h : OpenHalf) (frame : Nat) (c : Closure) : p.Measured (p.boundary h frame c) := by
  simp only [Part.boundary]
  refine Part.Measured.trans ?_ ((Part.emit_measured _ _ _).trans (Part.boundaryAdoption_measured _ _))
  exact Part.Measured.update

theorem Part.freeRunFromWait_measured (p : Part) : p.Measured p.freeRunFromWait := by
  simp only [Part.freeRunFromWait]
  refine Part.Measured.trans ?_ (Part.handRecord_measured _ _)
  exact Part.Measured.update

theorem Part.settleResync_measured (p : Part) : p.Measured p.settleResync := by
  simp only [Part.settleResync]
  split
  · exact p.freeRunFromWait_measured
  · exact Part.Measured.refl p

theorem Part.settleSeam_measured (p : Part) : p.Measured p.settleSeam := by
  simp only [Part.settleSeam]
  split
  · exact p.freeRunFromWait_measured
  · exact Part.Measured.refl p

theorem Part.settleForced_measured (p : Part) : p.Measured p.settleForced := by
  simp only [Part.settleForced]
  split
  · exact p.boundary_measured _ _ _
  · exact Part.Measured.refl p

theorem Part.settleFreeRun_measured (p : Part) : p.Measured p.settleFreeRun := by
  simp only [Part.settleFreeRun]
  split
  · exact p.boundary_measured _ _ _
  · exact Part.Measured.refl p

theorem Part.settleLength_measured (p : Part) : p.Measured p.settleLength := by
  simp only [Part.settleLength]
  split
  · exact p.settleResync_measured
  · split
    · exact p.settleSeam_measured
    · split
      · exact p.settleForced_measured
      · exact p.settleFreeRun_measured

/-! ## Slots, and everything outstanding -/

theorem Part.settleFull_measured (p : Part) (i : Nat) : p.Measured (p.settleFull i) := by
  simp only [Part.settleFull]
  split
  · exact p.extendOrEnd_measured i
  · exact Part.Measured.refl p

theorem Part.settleExpiry_measured (p : Part) (i : Nat) : p.Measured (p.settleExpiry i) := by
  simp only [Part.settleExpiry]
  split
  · exact p.expire_measured i
  · exact Part.Measured.refl p

theorem Part.settleFulls_measured (p : Part) : p.Measured p.settleFulls :=
  Part.foldl_measured _ (fun q i => q.settleFull_measured i) _ p

theorem Part.settleExpiries_measured (p : Part) : p.Measured p.settleExpiries :=
  Part.foldl_measured _ (fun q i => q.settleExpiry_measured i) _ p

theorem Part.settleSlots_measured (p : Part) : p.Measured p.settleSlots := by
  have h1 : ∀ q : Part, q.Measured q.settleFulls.settleExpiries := fun q => q.settleFulls_measured.trans (Part.settleExpiries_measured _)
  have h2 : ∀ q : Part, q.Measured q.settleExpiries.settleFulls := fun q => q.settleExpiries_measured.trans (Part.settleFulls_measured _)
  simp only [Part.settleSlots]
  split
  · exact p.either_measured _ _ h1 h2
  · exact h1 p

theorem Part.settleFrame_measured (p : Part) : p.Measured p.settleFrame := by
  simp only [Part.settleFrame]
  split
  · exact p.either_measured _ _ (fun q => q.settleLength_measured.trans (Part.settleSlots_measured _))
      (fun q => q.settleSlots_measured.trans (Part.settleLength_measured _))
  · split
    · exact p.settleLength_measured
    · exact p.settleSlots_measured

/-- The steps that delivered frames made due leave time, the receiver, the ring, the array, the record in hand, the committed journal and
the ports' requests and streams as they were (log entry 1). -/
theorem Part.settle_measured (p : Part) : p.Measured p.settle :=
  (p.settleFrame_measured.trans (Part.settleCandidate_measured _)).trans (Part.settleFolds_measured _)

/-- A delivered frame at the tracker and the engine. -/
theorem Part.track_measured (samples : Tri Sample) (sub : Bool) (p : Part) : p.Measured (p.track samples sub) := by
  have hsum : p.Measured (p.sumFrame samples) := by
    simp only [Part.sumFrame]
    split
    · exact Part.Measured.update
    · exact Part.Measured.refl p
  simp only [Part.track]
  have hobs : ∀ t : Tracker, p.Measured { p.sumFrame samples with tracker := t } :=
    fun t => hsum.trans Part.Measured.update
  split
  · split
    · split
      · exact (hobs _).trans (Part.boundary_measured _ _ _ _)
      · exact hobs _
    · exact (hobs _).trans Part.Measured.update
  · exact hobs _

/-- What a delivery does to the receiver and the ring; all else that it changes is measured (R4, R5, R101). -/
theorem Part.deliver_measured (p : Part) (index : Nat) (samples : Tri Sample) (sub : Bool) :
    Part.Measured { p with receiver := { p.receiver with frameIndex := index, delivered := true }
                           capture := p.capture.deliver ⟨index, samples, sub⟩ } (p.deliver index samples sub) := by
  simp only [Part.deliver]
  split
  · split
    · exact Part.track_measured _ _ _
    · split
      · exact ((Part.freeOrder_measured _).trans (Part.settleSlots_measured _)).trans (Part.track_measured _ _ _)
      · exact (Part.freeOrder_measured _).trans (Part.track_measured _ _ _)
  · exact Part.track_measured _ _ _

end Sys2Proof.Machine
end

