-- ==== Sys2Proof/Laws/Memory.lean ====
section
/-! SUPPORT. The nonvolatile array's laws: every operation keeps the canonical form, a read after a write gives what was written, and every other byte stays. -/

namespace Sys2Proof.Machine

/-! ## The canonical form -/

theorem Memory.wf_iff (m : Memory) :
    Memory.wf m = true ↔ (∀ c ∈ m, c.2 ≠ erasedByte) ∧ m.Pairwise (fun c d => c.1 < d.1) := by
  induction m with
  | nil => simp [Memory.wf]
  | cons c m ih =>
    cases m with
    | nil => simp [Memory.wf]
    | cons d m =>
      simp only [Memory.wf, Bool.and_eq_true, decide_eq_true_eq, ih, List.mem_cons, List.pairwise_cons]
      constructor
      · rintro ⟨⟨hc, hcd⟩, hall, hd, hm⟩
        refine ⟨?_, ?_, hd, hm⟩
        · rintro x (rfl | hx)
          · exact hc
          · exact hall x hx
        · rintro x (rfl | hx)
          · exact hcd
          · exact Nat.lt_trans hcd (hd x hx)
      · rintro ⟨hall, hc, hd, hm⟩
        exact ⟨⟨hall c (.inl rfl), hc d (.inl rfl)⟩, fun x hx => hall x (.inr hx), hd, hm⟩

theorem Memory.wf_nil : Memory.wf [] = true := rfl

theorem Memory.wf_filter {m : Memory} (f : Host.Cell → Bool) (h : Memory.wf m = true) : Memory.wf (m.filter f) = true := by
  rw [Memory.wf_iff] at h ⊢
  exact ⟨fun c hc => h.1 c (List.mem_filter.1 hc).1, h.2.filter f⟩

theorem Memory.mem_write {m : Memory} {a : Nat} {b : Byte} {c : Host.Cell} (hc : c ∈ Memory.write m a b) :
    c ∈ m ∨ (c = (a, b) ∧ b ≠ erasedByte) := by
  induction m with
  | nil =>
    simp only [Memory.write] at hc
    split at hc
    · cases hc
    · rename_i hb
      exact .inr ⟨by simpa using hc, hb⟩
  | cons d m ih =>
    simp only [Memory.write] at hc
    split at hc
    · split at hc
      · exact .inl hc
      · rename_i hb
        rcases List.mem_cons.1 hc with rfl | h
        · exact .inr ⟨rfl, hb⟩
        · exact .inl h
    · split at hc
      · split at hc
        · exact .inl (List.mem_cons_of_mem _ hc)
        · rename_i hb
          rcases List.mem_cons.1 hc with rfl | h
          · exact .inr ⟨rfl, hb⟩
          · exact .inl (List.mem_cons_of_mem _ h)
      · rcases List.mem_cons.1 hc with rfl | h
        · exact .inl (List.mem_cons_self ..)
        · rcases ih h with h | h
          · exact .inl (List.mem_cons_of_mem _ h)
          · exact .inr h

theorem Memory.wf_write {m : Memory} (a : Nat) (b : Byte) (h : Memory.wf m = true) : Memory.wf (Memory.write m a b) = true := by
  rw [Memory.wf_iff] at h ⊢
  refine ⟨fun c hc => ?_, ?_⟩
  · rcases Memory.mem_write hc with hm | ⟨rfl, hb⟩
    · exact h.1 c hm
    · exact hb
  · induction m with
    | nil =>
      simp only [Memory.write]
      split
      · exact List.Pairwise.nil
      · exact List.pairwise_singleton _ _
    | cons d m ih =>
      have hp := List.pairwise_cons.1 h.2
      simp only [Memory.write]
      split
      · rename_i ha
        split
        · exact h.2
        · refine List.pairwise_cons.2 ⟨?_, h.2⟩
          intro x hx
          rcases List.mem_cons.1 hx with rfl | hx
          · exact ha
          · exact Nat.lt_trans ha (hp.1 x hx)
      · split
        · rename_i hna hae
          split
          · exact hp.2
          · exact List.pairwise_cons.2 ⟨fun x hx => by rw [hae]; exact hp.1 x hx, hp.2⟩
        · rename_i hna hae
          refine List.pairwise_cons.2 ⟨fun x hx => ?_, ih ⟨fun c hc => h.1 c (List.mem_cons_of_mem _ hc), hp.2⟩⟩
          rcases Memory.mem_write hx with hm | ⟨rfl, -⟩
          · exact hp.1 x hm
          · exact Nat.lt_of_le_of_ne (Nat.le_of_not_lt hna) (fun e => hae e.symm)

theorem Memory.wf_writeAll {m : Memory} (a : Nat) (bs : List Byte) (h : Memory.wf m = true) :
    Memory.wf (Memory.writeAll m a bs) = true := by
  induction bs generalizing m a with
  | nil => exact h
  | cons b bs ih => exact ih (a + 1) (Memory.wf_write a b h)

theorem Memory.wf_program {m : Memory} (sector slot : Nat) (bs : List Byte) (h : Memory.wf m = true) :
    Memory.wf (Memory.program m sector slot bs) = true := Memory.wf_writeAll _ _ h

theorem Memory.wf_garble {m : Memory} (sector slot k : Nat) (bs : List Byte) (h : Memory.wf m = true) :
    Memory.wf (Memory.garble m sector slot k bs) = true := Memory.wf_program _ _ _ h

theorem Memory.wf_tearSlot {m : Memory} (sector slot k n : Nat) (h : Memory.wf m = true) :
    Memory.wf (Memory.tearSlot m sector slot k n) = true := Memory.wf_program _ _ _ h

theorem Memory.wf_tearSector {m : Memory} (sector k : Nat) (h : Memory.wf m = true) :
    Memory.wf (Memory.tearSector m sector k) = true := Memory.wf_writeAll _ _ h

theorem Memory.wf_erase {m : Memory} (sector : Nat) (h : Memory.wf m = true) : Memory.wf (Memory.erase m sector) = true :=
  Memory.wf_filter _ h

/-! ## Reads -/

theorem Memory.read_of_below {m : Memory} {a : Nat} (h : ∀ c ∈ m, a < c.1) : Memory.read m a = erasedByte := by
  induction m with
  | nil => rfl
  | cons c m ih =>
    have hc := h c (List.mem_cons_self ..)
    simp only [Memory.read]
    rw [if_neg (by omega)]
    exact ih (fun d hd => h d (List.mem_cons_of_mem _ hd))

theorem Memory.read_write_same {m : Memory} (a : Nat) (b : Byte) (h : Memory.wf m = true) :
    Memory.read (Memory.write m a b) a = b := by
  rw [Memory.wf_iff] at h
  induction m with
  | nil =>
    simp only [Memory.write]
    split
    · rename_i hb
      rw [hb]; rfl
    · simp [Memory.read]
  | cons d m ih =>
    have hp := List.pairwise_cons.1 h.2
    simp only [Memory.write]
    split
    · rename_i ha
      split
      · rename_i hb
        rw [hb]
        refine Memory.read_of_below (fun c hc => ?_)
        rcases List.mem_cons.1 hc with rfl | hc
        · exact ha
        · exact Nat.lt_trans ha (hp.1 c hc)
      · simp [Memory.read]
    · split
      · rename_i hna hae
        split
        · rename_i hb
          rw [hb]
          exact Memory.read_of_below (fun c hc => by rw [hae]; exact hp.1 c hc)
        · simp [Memory.read]
      · rename_i hna hae
        simp only [Memory.read]
        rw [if_neg (fun e => hae e.symm)]
        exact ih ⟨fun c hc => h.1 c (List.mem_cons_of_mem _ hc), hp.2⟩

theorem Memory.read_write_other (m : Memory) {a x : Nat} (b : Byte) (hx : x ≠ a) :
    Memory.read (Memory.write m a b) x = Memory.read m x := by
  induction m with
  | nil =>
    simp only [Memory.write]
    split
    · rfl
    · simp only [Memory.read]
      rw [if_neg (fun e => hx e.symm)]
  | cons d m ih =>
    simp only [Memory.write]
    split
    · split
      · rfl
      · simp only [Memory.read]
        rw [if_neg (fun e => hx e.symm)]
    · split
      · rename_i hae
        split
        · simp only [Memory.read]
          rw [if_neg (fun e => hx (by omega))]
        · simp only [Memory.read]
          rw [if_neg (fun e => hx e.symm), if_neg (fun e => hx (by omega))]
      · simp only [Memory.read, ih]

theorem Memory.read_writeAll_outside (m : Memory) {a x : Nat} (bs : List Byte) (hx : x < a ∨ a + bs.length ≤ x) :
    Memory.read (Memory.writeAll m a bs) x = Memory.read m x := by
  induction bs generalizing m a with
  | nil => rfl
  | cons b bs ih =>
    simp only [List.length_cons] at hx
    simp only [Memory.writeAll]
    rw [ih _ (by omega), Memory.read_write_other _ _ (by omega)]

theorem Memory.read_writeAll_inside {m : Memory} {a i : Nat} (bs : List Byte) (h : Memory.wf m = true) (hi : i < bs.length) :
    Memory.read (Memory.writeAll m a bs) (a + i) = bs[i] := by
  induction bs generalizing m a i with
  | nil => simp at hi
  | cons b bs ih =>
    simp only [Memory.writeAll]
    cases i with
    | zero =>
      rw [Memory.read_writeAll_outside _ _ (by omega)]
      simpa using Memory.read_write_same a b h
    | succ i =>
      have := ih (a := a + 1) (i := i) (Memory.wf_write a b h) (by simpa using hi)
      simpa [Nat.add_assoc, Nat.add_comm, Nat.add_left_comm] using this

/-- What a program writes reads back (R135, R148). -/
theorem Memory.readRange_writeAll {m : Memory} (a : Nat) (bs : List Byte) (h : Memory.wf m = true) :
    Memory.readRange (Memory.writeAll m a bs) a bs.length = bs := by
  apply List.ext_getElem
  · simp [Memory.readRange]
  · intro i h1 h2
    simp only [Memory.readRange, List.getElem_map, List.getElem_range]
    exact Memory.read_writeAll_inside bs h h2

theorem Memory.read_program_outside (m : Memory) {sector slot x : Nat} (bs : List Byte)
    (hx : x < slotAddress sector slot ∨ slotAddress sector slot + bs.length ≤ x) :
    Memory.read (Memory.program m sector slot bs) x = Memory.read m x := Memory.read_writeAll_outside m bs hx

theorem Memory.read_filter_of {m : Memory} (f : Host.Cell → Bool) {x : Nat} (hf : ∀ c : Host.Cell, c.1 = x → f c = true) :
    Memory.read (m.filter f) x = Memory.read m x := by
  induction m with
  | nil => rfl
  | cons c m ih =>
    by_cases hc : c.1 = x
    · rw [List.filter_cons_of_pos (hf c hc)]
      simp [Memory.read, hc]
    · by_cases hfc : f c = true
      · rw [List.filter_cons_of_pos hfc]
        simp only [Memory.read, if_neg hc, ih]
      · rw [List.filter_cons_of_neg hfc]
        simp only [Memory.read, if_neg hc, ih]

theorem Memory.read_filter_not {m : Memory} (f : Host.Cell → Bool) {x : Nat} (hf : ∀ c : Host.Cell, c.1 = x → f c = false) :
    Memory.read (m.filter f) x = erasedByte := by
  induction m with
  | nil => rfl
  | cons c m ih =>
    by_cases hfc : f c = true
    · rw [List.filter_cons_of_pos hfc]
      simp only [Memory.read]
      rw [if_neg (fun e => by rw [hf c e] at hfc; cases hfc), ih]
    · rw [List.filter_cons_of_neg hfc, ih]

/-- An erased sector reads as an erase leaves it (R131). -/
theorem Memory.read_erase_inside (m : Memory) {sector x : Nat} (h1 : slotAddress sector 0 ≤ x) (h2 : x < slotAddress (sector + 1) 0) :
    Memory.read (Memory.erase m sector) x = erasedByte := by
  refine Memory.read_filter_not _ (fun c hc => ?_)
  subst hc
  simp only [Bool.or_eq_false_iff, decide_eq_false_iff_not]
  exact ⟨by omega, by omega⟩

theorem Memory.read_erase_outside (m : Memory) {sector x : Nat} (h : x < slotAddress sector 0 ∨ slotAddress (sector + 1) 0 ≤ x) :
    Memory.read (Memory.erase m sector) x = Memory.read m x := by
  refine Memory.read_filter_of _ (fun c hc => ?_)
  subst hc
  simp only [Bool.or_eq_true, decide_eq_true_eq]
  exact h

/-- Equal reads of canonical arrays are equal arrays. -/
theorem Memory.ext_of_read {m n : Memory} (hm : Memory.wf m = true) (hn : Memory.wf n = true)
    (h : ∀ x, Memory.read m x = Memory.read n x) : m = n := by
  rw [Memory.wf_iff] at hm hn
  induction m generalizing n with
  | nil =>
    cases n with
    | nil => rfl
    | cons d n =>
      have := h d.1
      simp [Memory.read] at this
      exact absurd this.symm (hn.1 d (List.mem_cons_self ..))
  | cons c m ih =>
    have hpm := List.pairwise_cons.1 hm.2
    cases n with
    | nil =>
      have := h c.1
      simp [Memory.read] at this
      exact absurd this (hm.1 c (List.mem_cons_self ..))
    | cons d n =>
      have hpn := List.pairwise_cons.1 hn.2
      have hcd : c.1 = d.1 := by
        rcases Nat.lt_trichotomy c.1 d.1 with hlt | he | hgt
        · have h1 : Memory.read (d :: n) c.1 = erasedByte := Memory.read_of_below (fun e he => by
            rcases List.mem_cons.1 he with rfl | he
            · exact hlt
            · exact Nat.lt_trans hlt (hpn.1 e he))
          have h2 := h c.1
          rw [h1] at h2
          simp [Memory.read] at h2
          exact absurd h2 (hm.1 c (List.mem_cons_self ..))
        · exact he
        · have h1 : Memory.read (c :: m) d.1 = erasedByte := Memory.read_of_below (fun e he => by
            rcases List.mem_cons.1 he with rfl | he
            · exact hgt
            · exact Nat.lt_trans hgt (hpm.1 e he))
          have h2 := h d.1
          rw [h1] at h2
          simp [Memory.read] at h2
          exact absurd h2.symm (hn.1 d (List.mem_cons_self ..))
      have hval : c.2 = d.2 := by
        have := h c.1
        simpa [Memory.read, hcd] using this
      have hcd' : c = d := Prod.ext hcd hval
      subst hcd'
      congr 1
      refine ih ⟨fun e he => hm.1 e (List.mem_cons_of_mem _ he), hpm.2⟩
        ⟨fun e he => hn.1 e (List.mem_cons_of_mem _ he), hpn.2⟩ (fun x => ?_)
      by_cases hx : c.1 = x
      · rw [Memory.read_of_below (fun e he => hx ▸ hpm.1 e he), Memory.read_of_below (fun e he => hx ▸ hpn.1 e he)]
      · have := h x
        simpa [Memory.read, hx] using this

/-! ## What the scan reads -/

/-- In a canonical array a listed cell is what its address reads. -/
theorem Memory.read_of_mem {m : Memory} {c : Host.Cell} (h : Memory.wf m = true) (hc : c ∈ m) : Memory.read m c.1 = c.2 := by
  rw [Memory.wf_iff] at h
  induction m with
  | nil => cases hc
  | cons d m ih =>
    obtain ⟨hall, hp⟩ := h
    rw [List.pairwise_cons] at hp
    rcases List.mem_cons.1 hc with rfl | hc
    · simp [Memory.read]
    · have hne : d.1 ≠ c.1 := Nat.ne_of_lt (hp.1 c hc)
      simp only [Memory.read, if_neg hne]
      exact ih ⟨fun e he => hall e (List.mem_cons_of_mem _ he), hp.2⟩ hc

/-- An address of a canonical array that does not read as erased is listed. -/
theorem Memory.mem_of_read {m : Memory} {a : Nat} (h : Memory.read m a ≠ erasedByte) : ∃ c ∈ m, c.1 = a ∧ c.2 = Memory.read m a := by
  induction m with
  | nil => exact absurd rfl h
  | cons c m ih =>
    by_cases hc : c.1 = a
    · exact ⟨c, List.mem_cons_self .., hc, by simp [Memory.read, hc]⟩
    · simp only [Memory.read, if_neg hc] at h ⊢
      obtain ⟨d, hd, hda⟩ := ih h
      exact ⟨d, List.mem_cons_of_mem _ hd, hda⟩

/-- A slot counts as erased exactly when every byte of it reads as an erase leaves it (R131). -/
theorem slotErased_eq_false {m : Memory} (h : Memory.wf m = true) (n k : Nat) : slotErased m n k = false ↔
    ∃ a, slotAddress n k ≤ a ∧ a < slotAddress n (k + 1) ∧ Memory.read m a ≠ erasedByte := by
  simp only [slotErased, Bool.not_eq_false', List.any_eq_true, isWritten, Bool.and_eq_true, decide_eq_true_eq]
  constructor
  · rintro ⟨c, hc, ⟨h1, h2⟩, h3⟩
    exact ⟨c.1, h1, h2, by rwa [Memory.read_of_mem h hc]⟩
  · rintro ⟨a, h1, h2, h3⟩
    obtain ⟨c, hc, rfl, hv⟩ := Memory.mem_of_read h3
    exact ⟨c, hc, ⟨h1, h2⟩, hv ▸ h3⟩

/-! ## The scan's repairs and operations cut short -/

theorem Repair.wf_apply {m : Memory} (r : Repair) (h : Memory.wf m = true) : Memory.wf (r.apply m) = true := by
  cases r with
  | program n k bs => exact Memory.wf_program n k bs h
  | erase n => exact Memory.wf_erase n h

theorem Repair.wf_foldl {m : Memory} (rs : List Repair) (h : Memory.wf m = true) : Memory.wf (rs.foldl Repair.apply m) = true := by
  induction rs generalizing m with
  | nil => exact h
  | cons r rs ih => exact ih (Repair.wf_apply r h)

theorem Repair.wf_tear {m : Memory} (free : Nat) (r : Repair) (h : Memory.wf m = true) : Memory.wf (r.tear m free) = true := by
  cases r with
  | program n k bs => exact Memory.wf_tearSlot n k free bs.length h
  | erase n => exact Memory.wf_tearSector n free h

theorem wf_repaired {m : Memory} (h : Memory.wf m = true) : Memory.wf (repaired m) = true := Repair.wf_foldl _ h

theorem wf_cutScan {m : Memory} (free : Nat) (h : Memory.wf m = true) : Memory.wf (cutScan m free) = true := by
  simp only [cutScan]
  split
  · exact Repair.wf_foldl _ h
  · exact Repair.wf_tear _ _ (Repair.wf_foldl _ h)

theorem State.wf_cutMemory {s : State} (h : Memory.wf s.memory = true) : Memory.wf s.cutMemory = true := by
  simp only [State.cutMemory]
  split
  · exact wf_cutScan _ h
  · split
    · exact h
    · exact h
    · exact Memory.wf_tearSlot _ _ _ _ h
    · exact Memory.wf_tearSlot _ _ _ _ h
    · split
      · exact h
      · split
        · exact Memory.wf_tearSector _ _ h
        · exact Memory.wf_tearSlot _ _ _ _ h
    · exact Memory.wf_tearSector _ _ h

/-- The array as manufactured has the canonical form. -/
theorem State.wf_reset : Memory.wf State.reset.memory = true := rfl

end Sys2Proof.Machine
end

