-- ==== Sys2Proof/Laws/PerInstr.lean ====
section
/-! SUPPORT. Per command: the frame of a well-formed request passes the link checks 1 to 3 of R172. -/

namespace Sys2Proof.Laws

set_option Elab.async false

open Sys2Proof.Machine

/-- A request frame whose kind takes its payload length passes checks 1 to 3 (R172). -/
theorem linkError_frame (w : WireRequest) (hk : w.kind < 256) (hl : w.payload.length ≤ 248)
    (hs : requestSize w.kind w.payload.length = some true) : linkError w.frame = none := by
  have hlen : w.frame.length = w.payload.length + 5 := by
    simp [WireRequest.frame, withCheck_length]; omega
  have h0 : (w.frame.getD 0 0#8).toNat = w.kind := by
    simp [WireRequest.frame, withCheck, beBytes]; omega
  have h2 : statedLength w.frame = w.payload.length := by
    simp [statedLength, WireRequest.frame, withCheck, beBytes]; omega
  have ht : requestBytes w.frame = w.frame := by
    simp only [requestBytes, h2]
    exact List.take_of_length_le (by omega)
  have hc : checkHolds w.frame = true := checkHolds_withCheck _
  simp only [linkError, hlen, h0, h2, ht, hc, hs, maxRequest]
  rw [if_neg (by omega), if_neg (by omega), if_neg (by omega)]
  simp

namespace FrameChecks

/-- A well-formed request's frame brings no link error. -/
def Statement (i : Instr) : Prop := ∀ w, i.wire = some w → i.wellFormed = true → linkError w.frame = none

theorem sampleFrame (line : List LineByte) : Statement (.sampleFrame line) := by
  intro w hw _
  cases hw

theorem silenceTimerExpiry : Statement (.silenceTimerExpiry) := by
  intro w hw _
  cases hw

theorem resyncTimeout : Statement (.resyncTimeout) := by
  intro w hw _
  cases hw

theorem forcedBoundary : Statement (.forcedBoundary) := by
  intro w hw _
  cases hw

theorem freeRunBoundary : Statement (.freeRunBoundary) := by
  intro w hw _
  cases hw

theorem seamTimeout : Statement (.seamTimeout) := by
  intro w hw _
  cases hw

theorem candidateTimeout : Statement (.candidateTimeout) := by
  intro w hw _
  cases hw

theorem foldQuietClose (t : FoldType) : Statement (.foldQuietClose t) := by
  intro w hw _
  cases hw

theorem forcedAdoption : Statement (.forcedAdoption) := by
  intro w hw _
  cases hw

theorem slotFull (slot : BitVec 2) : Statement (.slotFull slot) := by
  intro w hw _
  cases hw

theorem captureExpiry (slot : BitVec 2) : Statement (.captureExpiry slot) := by
  intro w hw _
  cases hw

theorem recordProgramComplete (agrees : Bool) : Statement (.recordProgramComplete agrees) := by
  intro w hw _
  cases hw

theorem sectorEraseComplete : Statement (.sectorEraseComplete) := by
  intro w hw _
  cases hw

theorem settingsProgramComplete (agrees : Bool) : Statement (.settingsProgramComplete agrees) := by
  intro w hw _
  cases hw

theorem compactionComplete (verifies : List Bool) : Statement (.compactionComplete verifies) := by
  intro w hw _
  cases hw

theorem readBurstLands : Statement (.readBurstLands) := by
  intro w hw _
  cases hw

theorem powerOn : Statement (.powerOn) := by
  intro w hw _
  cases hw

theorem resetAsserted : Statement (.resetAsserted) := by
  intro w hw _
  cases hw

theorem resetReleased : Statement (.resetReleased) := by
  intro w hw _
  cases hw

theorem startUpScanComplete : Statement (.startUpScanComplete) := by
  intro w hw _
  cases hw

theorem supplyFailTaken : Statement (.supplyFailTaken) := by
  intro w hw _
  cases hw

theorem supplyFailReleased : Statement (.supplyFailReleased) := by
  intro w hw _
  cases hw

theorem supplyRecovered : Statement (.supplyRecovered) := by
  intro w hw _
  cases hw

theorem proposalLapse : Statement (.proposalLapse) := by
  intro w hw _
  cases hw

theorem noteTimeout (port : Party) : Statement (.noteTimeout port) := by
  intro w hw _
  cases hw

theorem requestFrameError (port : Party) (frame : List Byte) : Statement (.requestFrameError port frame) := by
  intro w hw _
  cases hw

theorem transferEnd (port : Party) (clockedIn : List Byte) : Statement (.transferEnd port clockedIn) := by
  intro w hw _
  cases hw

theorem identify (port : Party) (tag : Byte) : Statement (.identify port tag) := by
  intro w hw _
  cases hw
  exact linkError_frame _ (by simp) (by simp) (by simp [requestSize])

theorem readLive (port : Party) (tag : Byte) (selector : Byte) : Statement (.readLive port tag selector) := by
  intro w hw _
  cases hw
  exact linkError_frame _ (by simp) (by simp) (by simp [requestSize])

theorem seek (port : Party) (tag : Byte) (target : Byte) (sequence : BitVec 32) (option : Byte) : Statement (.seek port tag target sequence option) := by
  intro w hw _
  cases hw
  exact linkError_frame _ (by simp) (by simp) (by simp [requestSize])

theorem readNext (port : Party) (tag : Byte) (count : Byte) : Statement (.readNext port tag count) := by
  intro w hw _
  cases hw
  exact linkError_frame _ (by simp) (by simp) (by simp [requestSize])

theorem release (port : Party) (tag : Byte) (value : BitVec 32) : Statement (.release port tag value) := by
  intro w hw _
  cases hw
  exact linkError_frame _ (by simp) (by simp) (by simp [requestSize])

theorem captureNow (port : Party) (tag : Byte) : Statement (.captureNow port tag) := by
  intro w hw _
  cases hw
  exact linkError_frame _ (by simp) (by simp) (by simp [requestSize])

theorem readCapture (port : Party) (tag : Byte) (serial : BitVec 32) (offset : BitVec 16) (count : Byte) : Statement (.readCapture port tag serial offset count) := by
  intro w hw _
  cases hw
  exact linkError_frame _ (by simp) (by simp) (by simp [requestSize])

theorem releaseCapture (port : Party) (tag : Byte) (serial : BitVec 32) : Statement (.releaseCapture port tag serial) := by
  intro w hw _
  cases hw
  exact linkError_frame _ (by simp) (by simp) (by simp [requestSize])

theorem readProfile (port : Party) (tag : Byte) (selector : Byte) : Statement (.readProfile port tag selector) := by
  intro w hw _
  cases hw
  exact linkError_frame _ (by simp) (by simp) (by simp [requestSize])

theorem propose (port : Party) (tag : Byte) (expiry : BitVec 16) (profile : Profile) : Statement (.propose port tag expiry profile) := by
  intro w hw _
  cases hw
  have h : (beBytes 2 expiry.toNat ++ profile.encode).length = 44 := by
    rw [List.length_append, beBytes_length, Profile.encode_length]
  exact linkError_frame _ (by simp) (by rw [h]; decide) (by rw [h]; rfl)

theorem concur (port : Party) (tag : Byte) (number : Byte) : Statement (.concur port tag number) := by
  intro w hw _
  cases hw
  exact linkError_frame _ (by simp) (by simp) (by simp [requestSize])

theorem withdraw (port : Party) (tag : Byte) : Statement (.withdraw port tag) := by
  intro w hw _
  cases hw
  exact linkError_frame _ (by simp) (by simp) (by simp [requestSize])

theorem markTime (port : Party) (tag : Byte) (stated : BitVec 64) (quality : Byte) : Statement (.markTime port tag stated quality) := by
  intro w hw _
  cases hw
  exact linkError_frame _ (by simp) (by simp) (by simp [requestSize])

theorem noteBegin (port : Party) (tag : Byte) (topic : Byte) : Statement (.noteBegin port tag topic) := by
  intro w hw _
  cases hw
  exact linkError_frame _ (by simp) (by simp) (by simp [requestSize])

theorem noteText (port : Party) (tag : Byte) (chars : List Byte) : Statement (.noteText port tag chars) := by
  intro w hw hf
  cases hw
  have h : chars.length ≤ 32 := of_decide_eq_true hf
  exact linkError_frame _ (by simp) (Nat.le_trans h (by decide)) (by simp [requestSize, h])

theorem noteEnd (port : Party) (tag : Byte) : Statement (.noteEnd port tag) := by
  intro w hw _
  cases hw
  exact linkError_frame _ (by simp) (by simp) (by simp [requestSize])

theorem nextNotice (port : Party) (tag : Byte) : Statement (.nextNotice port tag) := by
  intro w hw _
  cases hw
  exact linkError_frame _ (by simp) (by simp) (by simp [requestSize])

theorem acknowledgeAttention (port : Party) (tag : Byte) : Statement (.acknowledgeAttention port tag) := by
  intro w hw _
  cases hw
  exact linkError_frame _ (by simp) (by simp) (by simp [requestSize])

theorem setNoticeMask (port : Party) (tag : Byte) (masks : BitVec 16) (levels : BitVec 16) : Statement (.setNoticeMask port tag masks levels) := by
  intro w hw _
  cases hw
  exact linkError_frame _ (by simp) (by simp) (by simp [requestSize])

theorem selectTally (port : Party) (tag : Byte) (tally : Byte) (selection : Byte) : Statement (.selectTally port tag tally selection) := by
  intro w hw _
  cases hw
  exact linkError_frame _ (by simp) (by simp) (by simp [requestSize])

theorem readTallies (port : Party) (tag : Byte) : Statement (.readTallies port tag) := by
  intro w hw _
  cases hw
  exact linkError_frame _ (by simp) (by simp) (by simp [requestSize])

theorem readRecurrence (port : Party) (tag : Byte) (start : Byte) : Statement (.readRecurrence port tag start) := by
  intro w hw _
  cases hw
  exact linkError_frame _ (by simp) (by simp) (by simp [requestSize])

theorem portReset (port : Party) (tag : Byte) : Statement (.portReset port tag) := by
  intro w hw _
  cases hw
  exact linkError_frame _ (by simp) (by simp) (by simp [requestSize])

theorem powerEnds : Statement (.powerEnds) := by
  intro w hw _
  cases hw

end FrameChecks

end Sys2Proof.Laws
end

