-- ==== Sys2Proof/Tests/Slice0.lean ====
section
/-! SUPPORT. Tests: the well-formedness checks refuse ill-formed operands, worked examples of the spec's rules, and for every statement with hypotheses concrete states and operands that meet them. -/

namespace Sys2Proof.Tests

set_option Elab.async false

open Sys2Proof Sys2Proof.Machine

/-! ## Well-formedness -/

theorem test_line_of_nine_bytes_refused : (Instr.sampleFrame (List.replicate 9 ⟨0, true⟩)).wellFormed = false := by decide
theorem test_line_of_ten_bytes_accepted : (Instr.sampleFrame (sampleLine 1 (Tri.all 0))).wellFormed = true := by decide +kernel
theorem test_33_characters_refused : (Instr.noteText .supply 1 (List.replicate 33 65)).wellFormed = false := by decide
theorem test_32_characters_accepted : (Instr.noteText .supply 1 (List.replicate 32 65)).wellFormed = true := by decide
theorem test_good_frame_is_no_frame_error : (Instr.requestFrameError .supply (withCheck [0x01, 0x05, 0x00])).wellFormed = false := by
  decide +kernel
theorem test_broken_frame_is_a_frame_error : (Instr.requestFrameError .supply [0x01, 0x05, 0x00, 0, 0]).wellFormed = true := by
  decide +kernel
theorem test_complete_frame_ends_no_transfer : (Instr.transferEnd .supply (withCheck [0x01, 0x05, 0x00])).wellFormed = false := by
  decide +kernel
theorem test_incomplete_frame_ends_a_transfer : (Instr.transferEnd .supply [0x01, 0x05]).wellFormed = true := by decide
theorem test_17_outcomes_refused : (Instr.compactionComplete (List.replicate 17 true)).wellFormed = false := by decide
theorem test_no_word_is_a_command : decodeTableWord 8 1 = none := by decide

/-! ## Formats and values, from the spec's definitions and worked by hand -/

/-- The check value of the nine characters 1 to 9 under R1's generator, start value and final value. -/
theorem test_check_value : crc [0x31, 0x32, 0x33, 0x34, 0x35, 0x36, 0x37, 0x38, 0x39] = 0x29B1#16 := by decide +kernel
/-- Seek to record 0x01020304 with the option set: kind 03, tag, length 6, code 00, sequence, option 01. -/
theorem test_seek_frame_read : commandOf .field (withCheck [0x03, 0x2A, 6, 0, 1, 2, 3, 4, 1]) =
    some (.seek .field 0x2A 0 0x01020304 1) := by decide +kernel
/-- Release of 256 at SUPPLY: kind 05, tag, length 4, the value high byte first. -/
theorem test_release_frame_read : commandOf .supply (withCheck [0x05, 9, 4, 0, 0, 1, 0]) = some (.release .supply 9 256) := by
  decide +kernel
/-- R24: a root of 11,499 at gain 8,192 gives 22,998 cV; R23 takes the root of the floored mean square. -/
theorem test_value_scaled : rmsValue (11499 * 11499 * 205 + 204) 205 8192 = 22998 := by decide +kernel
/-- R24: an exact half rounds up (1 × 2,048 / 4,096) and 65,535 is the limit. -/
theorem test_value_half_rounds_up : rmsValue 128 128 2048 = 1 := by decide +kernel
theorem test_value_limited : rmsValue (32768 * 32768 * 256) 256 65535 = 65535 ∧ rmsLimited (32768 * 32768 * 256) 256 65535 = true := by
  decide +kernel
/-- R31 with the defaults: 90 % of 23,000 cV, and 92 % above it. -/
theorem test_levels_of_defaults : levelsOf Profile.default = ⟨20700, 21160, 25300, 24840, 1150, 1610, 759⟩ := by decide +kernel
/-- R84: 1,000 half-cycles of 102.4 frames on average are 50 Hz. -/
theorem test_frequency_of_nominal_rate : frequency 1000 102400 = some 50000 := by decide +kernel
/-- R35: a value at the dip start level does not set the flag, one below does; the flag stays below the dip end level. -/
theorem test_dip_flag_edges : (noFlags.update (levelsOf Profile.default) 20700).dip = false ∧
    (noFlags.update (levelsOf Profile.default) 20699).dip = true ∧
    ((noFlags.update (levelsOf Profile.default) 20699).update (levelsOf Profile.default) 21159).dip = true ∧
    ((noFlags.update (levelsOf Profile.default) 20699).update (levelsOf Profile.default) 21160).dip = false := by decide +kernel
/-- R91: a dip of 23,000 cV to 11,500 cV over 10 half-cycles has depth band 4 and duration band 3. -/
theorem test_signature_bands : signatureOf .dip ⟨true, false, false⟩ 11500 10 23000 = ⟨.dip, ⟨true, false, false⟩, 4, 3⟩ := by
  decide +kernel
/-- R15: the next in-use channel in cyclic order, and one channel alone. -/
theorem test_rotation_order : ChanSet.nextAfter ⟨true, false, true⟩ .c1 = .c3 ∧ ChanSet.nextAfter ⟨true, false, true⟩ .c3 = .c1 ∧
    ChanSet.nextAfter ⟨false, true, false⟩ .c2 = .c2 := by decide

/-! ## States -/

/-- A part that is recording: the journal WRITING at the first slot of an erased ring, SUPPLY and PREMISES enrolled at mark 0. -/
def live : Part := { resetPart .powerOn 0 with
  receiver := { resetReceiver with epoch := 1 }
  journal := { resetJournal with
    state := .writing, sectors := ⟨.isOpen, [], []⟩ :: List.replicate 127 erasedSector, markSupply := some 0, markPremises := some 0 } }

/-- The part in RUNNING at frame 500, its last frame 2 ms old, the array serving FIELD. -/
def running : Part := { live with
  localTime := 40
  receiver := { live.receiver with
    acq := .running, lastSeq := some 7, lastSamples := some (Tri.all 100), frameIndex := 500, delivered := true
    lastFrameTime := some 38 }
  array := { live.array with op := some (.burst .field) } }

/-- The machine powered, out of reset, with a part. -/
def machine (p : Part) : State := { State.reset with part := p }

/-- A machine without power. -/
def dark : State := { State.reset with pins := ⟨false, true, false⟩ }

/-- The state a command leaves. -/
def after (c : Instr) (s : State) : State :=
  match exec c s with
  | .next t => t
  | .fault _ => s
  | .refused _ => s

/-- A record to fill queues with. -/
def someRec : Rec := ⟨.recorder, ⟨false, false, false⟩, 1, 10, 0, .acqGap 5 5 .jump⟩

/-- A RELEASE record of a party. -/
def releaseRec (q : Party) : Rec := ⟨.party q, ⟨false, false, false⟩, 1, 10, 0, .release q 4 2⟩

/-- A part with one port replaced. -/
def withPort (p : Part) (q : Party) (f : Port → Port) : Part := { p with ports := p.ports.set q (f (p.ports.get q)) }

/-- A port that serves, from its three conditions as a Boolean. -/
theorem serves_of {s : State} {q : Party}
    (h : (s.alive && (!s.found.isStarting && (s.found.ports.get q).inProgress.isNone)) = true) : s.serves q := by
  simp only [Bool.and_eq_true, Bool.not_eq_true', Option.isNone_iff_eq_none] at h
  exact ⟨h.1, h.2.1, h.2.2⟩

/-- A port that serves a request which may offer a record, from its three conditions as a Boolean. -/
theorem servesAsked_of {s : State} {q : Party}
    (h : (s.alive && (!s.asked.isStarting && (s.asked.ports.get q).inProgress.isNone)) = true) : s.servesAsked q := by
  simp only [Bool.and_eq_true, Bool.not_eq_true', Option.isNone_iff_eq_none] at h
  exact ⟨h.1, h.2.1, h.2.2⟩

/-! ## Commands on those states -/

/-- R3: the first valid frame after a start is frame 0. -/
theorem test_first_frame : (after (.sampleFrame (sampleLine 9 (Tri.all 5))) (machine live)).part.receiver.frameIndex = 0 ∧
    (after (.sampleFrame (sampleLine 9 (Tri.all 5))) (machine live)).part.receiver.acq = .running := by decide +kernel
/-- R2: a byte with a low stop bit among the nine of two frames, the second begun by a sync value inside the first, discards both. -/
theorem test_low_stop_discards_both : ((machine live).found.receive
      ((sampleLine 9 (Tri.all 0xC3C3)).take 4 ++ [⟨0, false⟩])).receiver.checkFailed = 3 ∧
    ((machine live).found.receive ((sampleLine 9 (Tri.all 0xC3C3)).take 4 ++ [⟨0, false⟩])).receiver.assembling = [] := by decide +kernel
/-- R148: with the settings sequence 4,294,967,294 next, one of two copies is made and the other is not assigned. -/
theorem test_settings_sequences_end :
    (⟨some ⟨129, 0, 7, .profile 1 Profile.default⟩, some ⟨129, 1, 8, .epoch 1 0⟩, none, none, 128, 129, 1, 4294967294⟩ : SettingsScan).copies =
      [.profile 1 Profile.default] ∧
    (⟨some ⟨129, 0, 7, .profile 1 Profile.default⟩, some ⟨129, 1, 8, .epoch 1 0⟩, none, none, 128, 129, 1, 4294967294⟩ : SettingsScan).unassigned =
      true := by decide +kernel
/-- R5: k = 5 delivers four substitutes; R6: k = 6 is a gap with none. -/
theorem test_substitutes : (after (.sampleFrame (sampleLine 12 (Tri.all 5))) (machine running)).part.receiver.substituted = 4 ∧
    (after (.sampleFrame (sampleLine 12 (Tri.all 5))) (machine running)).part.receiver.frameIndex = 505 ∧
    (after (.sampleFrame (sampleLine 13 (Tri.all 5))) (machine running)).part.receiver.substituted = 0 ∧
    (after (.sampleFrame (sampleLine 13 (Tri.all 5))) (machine running)).part.aggregator.lastMissing = some 505 := by decide +kernel
/-- R7: LOST at 8 ms and not at 7 ms. -/
theorem test_silence : (after .silenceTimerExpiry (machine { running with localTime := 46 })).part.receiver.acq = .lost ∧
    (after .silenceTimerExpiry (machine { running with localTime := 45 })).part.receiver.acq = .running := by decide +kernel
/-- R8: 25 ms of silence advance the index by 256. -/
theorem test_resumption : resumeAdvance 25 = 256 ∧ resumeAdvance 8 = 81 := by decide
/-- R150, R154, R199: a never-written part starts epoch 1 with a PROFILE entry, then an EPOCH entry, RESTART and PROFILE records. -/
theorem test_never_written : (after .startUpScanComplete State.reset).part.receiver.epoch = 1 ∧
    (after .startUpScanComplete State.reset).part.journal.pendingSettings.map PendingSetting.setting =
      [.profile 1 Profile.default, .epoch 1 0] ∧
    (after .startUpScanComplete State.reset).part.commit.priority.map (fun r => r.payload.kind) = [.restart, .profile] ∧
    (after .startUpScanComplete State.reset).part.array.op = some .settingsProgram := by decide +kernel
/-- R172, check 5: a request during the scan is answered STARTING; Identify is answered. -/
theorem test_starting : ((after (.readTallies .field 3) State.reset).part.ports.get .field).response = some ⟨3, .starting, .none⟩ ∧
    (((after (.identify .field 3) State.reset).part.ports.get .field).response.map Response.status) = some .ok := by decide +kernel
/-- R144, R180: a Release is held for its MARK entry. -/
theorem test_release_held : ((after (.release .supply 8 0) (machine live)).part.ports.get .supply).ready = false ∧
    (after (.release .supply 8 0) (machine live)).part.array.op = some .settingsProgram := by decide +kernel
/-- R195: a failure at FIELD's burst leaves the SUPPLY_FAIL record in PRIORITY and the INTERVAL record in BULK. -/
theorem test_supply_fail : (after .supplyFailTaken (machine running)).part.commit.priority.map (fun r => r.payload.kind) = [.supplyFail] ∧
    (after .supplyFailTaken (machine running)).part.commit.bulk.map (fun r => r.payload.kind) = [.interval] ∧
    (after .supplyFailTaken (machine running)).part.receiver.failureFrame = some 500 := by decide +kernel

/-- R106, R109: a trigger at frame 400 that a gap has taken, the frame after the gap being 450, holds its slot from 450 with no frames. -/
theorem test_gap_took_the_trigger : (({ running with capture := { resetCapture with
      ring := [⟨500, Tri.all 1, false⟩], resumed := some 450 } } : Part).takeSlot .dip (some 4) .recorder 400).map
        (fun x => x.2.capture.slots.head?.bind (fun c => c.map (fun c => (c.held, c.truncated, c.firstFrame, c.frames.length, c.holdStart)))) =
      some (some (true, true, 401, 0, 450)) ∧
    (({ running with capture := { resetCapture with ring := [⟨500, Tri.all 1, false⟩], resumed := some 450 } } : Part).takeSlot
      .manual none (.party .supply) 500).map (fun x => x.2.capture.slots.head?.bind (fun c => c.map CapSlot.held)) = some (some false) := by
  decide +kernel
/-- R58: a channel not in use has no mean. -/
theorem test_means_shown : ({ live with rvc := { resetRvc with mode := .candidate }, profile := { live.profile with
      inForce := { Profile.default with channels := 5 } } } : Part).rvcView =
    .candidate 0 0 ⟨some 0, none, some 0⟩ 0 .c1 ChanSet.empty := by decide +kernel

/-! ## Witnesses: states and operands that meet the hypotheses of the statements -/

/-- A part whose queues and first port are at their bounds. -/
def crowded : Part := withPort { live with commit := { resetCommit with
    priority := List.replicate 16 (releaseRec .supply) ++ List.replicate 8 someRec, bulk := List.replicate 8 someRec } } .supply
  (fun t => { t with buffer := List.replicate 8 ⟨0, []⟩, notices := [⟨.journalBlocked, 65535, 1, 0, .blocked⟩]
                     note := .assembling ⟨0, List.replicate 96 65, 0, false⟩ 0 })

theorem witness_queues_bounded : (machine crowded).part.queuesBounded ∧ ∃ t, step (machine crowded) = .next t :=
  ⟨⟨by decide +kernel, by decide +kernel, by decide +kernel, fun _ h => by cases h⟩, _, rfl⟩

theorem witness_ports_bounded : (machine crowded).part.portsBounded ∧ ∃ t, step (machine crowded) = .next t := by
  refine ⟨?_, _, rfl⟩
  intro q
  cases q
  · exact ⟨by decide +kernel, fun h => absurd rfl h, by decide +kernel, by decide +kernel, by decide +kernel⟩
  · exact ⟨by decide +kernel, fun h => absurd rfl h, by decide +kernel, by decide +kernel, by decide +kernel⟩
  · exact ⟨by decide +kernel, fun h => absurd rfl h, by decide +kernel, by decide +kernel, by decide +kernel⟩

/-- A machine whose array holds two bytes. -/
def written : State := { machine live with memory := [(0, 1), (5, 7)] }

theorem witness_array_canonical : MemoryOk written ∧ ∃ t, step written = .next t := ⟨(by decide : Memory.wf written.memory = true), _, rfl⟩

/-- A part with a full ring and one learned signature. -/
def learned : Part := { live with
  capture := { resetCapture with ring := List.replicate 2048 ⟨0, Tri.all 0, false⟩ }
  recurrence := ⟨some ⟨⟨.dip, ⟨true, false, false⟩, 4, 3⟩, 2, ⟨1, 5⟩, ⟨1, 9⟩, false⟩ :: List.replicate 63 none, 2⟩ }

theorem witness_tables_sound : (machine learned).part.tablesSound ∧ ∃ t, step (machine learned) = .next t := by
  refine ⟨⟨by decide +kernel, by decide +kernel, by decide +kernel, by decide +kernel, ?_, ?_⟩, _, rfl⟩
  · intro e h
    have h' : some e ∈ (some ⟨⟨.dip, ⟨true, false, false⟩, 4, 3⟩, 2, ⟨1, 5⟩, ⟨1, 9⟩, false⟩ :: List.replicate 63 none : List (Option RecurEntry)) := h
    rcases List.mem_cons.1 h' with h | h
    · cases h; decide
    · cases (List.mem_replicate.1 h).2
  · intro i j a b hi hj _
    have key : ∀ (k : Nat) (c : RecurEntry), learned.recurrence.entries[k]? = some (some c) → k = 0 := by
      intro k c hk
      cases k with
      | zero => rfl
      | succ k =>
        have hk' : (List.replicate 63 (none : Option RecurEntry))[k]? = some (some c) := hk
        rw [List.getElem?_replicate] at hk'
        split at hk' <;> cases hk'
    rw [key i a hi, key j b hj]

/-- A proposal of SUPPLY's with the default contents. -/
def proposal (agreeing : PartySet) (consented : Bool) : Proposal := ⟨5, .supply, Profile.default, 60000, agreeing, consented⟩

/-- A part whose two enrolled parties have consented at local time 100. -/
def deferred : Part := { live with
  localTime := 60100
  profile := { live.profile with proposal := some (proposal ⟨true, true, false⟩ true), lastProposal := 5, deferral := some ⟨100, false⟩ } }

theorem witness_consent_sound : (machine deferred).part.consentSound ∧ deferred.isStarting = false ∧
    ∃ t, step (machine deferred) = .next t ∧ t.part.isStarting = false ∧ t.part.profile.number = 2 := by
  refine ⟨⟨?_, ?_, ?_⟩, by decide, _, rfl, by decide +kernel, by decide +kernel⟩
  · exact ⟨fun _ => ⟨_, rfl, rfl⟩, fun _ => rfl⟩
  · intro pr h
    cases h
    exact ⟨by decide +kernel, by decide +kernel, fun _ => by decide +kernel⟩
  · intro h
    exact absurd h (by decide)

/-- A part whose ring has no spare and whose tail, sector 1, holds record 0, released by both enrolled parties. -/
def reclaiming : Part := { live with
  journal := { live.journal with
    state := .erasing, newest := some 1, writeSlot := 64, markSupply := some 1, markPremises := some 1
    sectors := ⟨.isOpen, [⟨0, 1, 0⟩], []⟩ :: ⟨.full, [⟨0, 0, 0⟩], []⟩ :: List.replicate 126 erasedSector } }

theorem witness_erase_safe : (machine reclaiming).part.eraseSafe ∧ ∃ t, step (machine reclaiming) = .next t := by
  refine ⟨⟨⟨by decide, fun _ => rfl, rfl⟩, by decide +kernel, by decide, fun _ => ⟨by decide +kernel, by decide +kernel⟩, ?_⟩, _, rfl⟩
  intro n h
  cases h

theorem witness_alive_and_dark : (machine live).alive = true ∧ (machine live).recovering = false ∧ dark.alive = false := by decide

theorem witness_not_recovering : (machine running).recovering = false ∧ running.settingsExhausted = false ∧
    running.array.op.isSome = true := by decide +kernel

/-- What the array does at the end of a command on a part. -/
def granted (p : Part) : Option ArrayOp := (machine p).finish.part.array.op

/-- An idle WRITING or BLOCKED part with a settings entry waiting, a number for the next one, and SUPPLY's burst standing. -/
def lastNumbered (state : JournalState) (next : Nat) : Part := withPort { reclaiming with
  journal := { reclaiming.journal with state := state, nextSettings := next, pendingSettings := [⟨.epoch 1 0, false, false, none⟩] } } .supply
  (fun t => { t with burst := .standing })

/-- R130, R148, R197: the last settings sequence is assigned, the one after it brings FAULTED; a part that waits for its restart restarts at
once when BLOCKED or FAULTED and waits on when WRITING. -/
theorem witness_exhausted_and_restart : (lastNumbered .writing 4294967295).settingsExhausted = true ∧
    (lastNumbered .writing 4294967294).settingsExhausted = false ∧
    (machine (lastNumbered .writing 4294967295)).finish.part.journal.faultCause = some .sequencesExhausted ∧
    ([JournalState.blocked, .writing].map fun state =>
      (({ machine (lastNumbered state 5) with recovering := true } : State).finish.part.isStarting,
        ({ machine (lastNumbered state 5) with recovering := true } : State).finish.recovering)) = [(true, false), (false, true)] ∧
    ({ machine (lastNumbered .writing 4294967295) with recovering := true } : State).finish.part.isStarting = true ∧
    ({ machine live with recovering := true } : State).alive = true := by decide +kernel

/-- R124: a retry comes before settings work, settings work before an erase, an erase before a record; none of them while BLOCKED. -/
theorem test_work_order : granted { reclaiming with
      commit := { resetCommit with inHand := some someRec }, journal := { reclaiming.journal with
        writeSlot := 3, pendingSettings := [⟨.epoch 1 0, false, false, none⟩] } } = some .recordProgram ∧
    granted { reclaiming with
      commit := { resetCommit with priority := [someRec] }, journal := { reclaiming.journal with
        pendingSettings := [⟨.epoch 1 0, false, false, none⟩] } } = some .settingsProgram ∧
    granted { reclaiming with commit := { resetCommit with priority := [someRec] } } = some (.erase 1) ∧
    granted { live with commit := { resetCommit with priority := [someRec] } } = some .recordProgram ∧
    granted { reclaiming with
      commit := { resetCommit with priority := [someRec] }, journal := { reclaiming.journal with state := .blocked } } = none := by
  decide +kernel

/-- R127: with the writer and two ports asking, the first after the last granted one is granted. -/
theorem test_grant_cycle : (([.writer, .port .supply, .port .premises, .port .field] : List Requester).map fun last =>
      granted { live with
        commit := { resetCommit with priority := [someRec] }, array := ⟨none, last, none, none⟩
        ports := ⟨{ resetPort with burst := .standing }, resetPort, { resetPort with burst := .standing }⟩ }) =
    [some (.burst .supply), some (.burst .field), some (.burst .field), some .recordProgram] := by decide +kernel

/-- A BLOCKED or WRITING part whose tail's record 0, not released by SUPPLY, is 62 days old. -/
def agedTail (state : JournalState) : Part := { reclaiming with
  journal := { reclaiming.journal with state := state, markSupply := some 0, epochBase := 5356800 } }

/-- R87, R141, R166: step 3 evaluates the tail under the old retention age; an adoption that raises the age lets no erase so called for stand,
one that keeps it does. -/
theorem test_adoption_calls_no_old_erase : (agedTail .writing).reclaimable = true ∧
    ((agedTail .blocked).adoptionClose 10).journal.state = .erasing ∧
    ((agedTail .blocked).adopt { proposal ⟨true, true, false⟩ true with contents := { Profile.default with retention := 400 } } 10
      true).journal.state = .blocked ∧
    ((agedTail .blocked).adopt { proposal ⟨true, true, false⟩ true with contents := { Profile.default with noteTimeout := 9 } } 10
      true).journal.state = .erasing := by decide +kernel

theorem witness_wire : (Instr.noteText .field 1 [65]).wire = some ⟨.field, 0x0F, 1, [65]⟩ ∧
    (Instr.noteText .field 1 [65]).wellFormed = true := by decide

/-- An array with one record. -/
def stored : Memory := Memory.program [] 5 0 (someRec.encode 7)

/-- A settings area in which an interrupted compaction has copied one of two entries. -/
def interrupted : Memory := Memory.program (Memory.program (Memory.program []
  128 0 (Setting.encode 3 (.epoch 2 9))) 128 1 (Setting.encode 4 (.mark .supply 6))) 129 0 (Setting.encode 5 (.epoch 2 9))

theorem stored_wf : Memory.wf stored = true ∧ Memory.wf interrupted = true :=
  ⟨Memory.wf_program _ _ _ rfl, Memory.wf_program _ _ _ (Memory.wf_program _ _ _ (Memory.wf_program _ _ _ rfl))⟩

open Classical in
/-- The functions that the statement on the ring names exist for that array, whose newest record the scan finds. -/
theorem witness_ring_scan : ∃ (written : Nat → Nat → Bool) (candidate stands : Nat → Nat → Option Found)
    (later : Nat × Nat → Nat × Nat → Prop),
    (∀ n k, written n k = true ↔ ∃ a, slotAddress n k ≤ a ∧ a < slotAddress n k + 128 ∧ Memory.read stored a ≠ 0xFF#8) ∧
    (∀ n k f, candidate n k = some f ↔ n < 128 ∧ k < 64 ∧ written n k = true ∧ readRecord (Memory.readSlot stored n k) = some f) ∧
    (∀ y x, later y x ↔ (y.1 = x.1 ∧ x.2 < y.2) ∨ (y.1 ≠ x.1 ∧ ((y.1 + 128 - x.1) % 128 < 64 ∨
      ((y.1 + 128 - x.1) % 128 = 64 ∧ x.1 < y.1)))) ∧
    (∀ n k f, stands n k = some f ↔ candidate n k = some f ∧
      ∀ n' k' f', candidate n' k' = some f' → f'.seq = f.seq → ¬ later (n', k') (n, k)) ∧
    Memory.wf stored = true ∧ (scanRing stored).newest = some ⟨5, 0, ⟨7, 1, 0⟩⟩ := by
  refine ⟨fun n k => decide (∃ a, slotAddress n k ≤ a ∧ a < slotAddress n k + 128 ∧ Memory.read stored a ≠ 0xFF#8),
    fun n k => if n < 128 ∧ k < 64 ∧ (∃ a, slotAddress n k ≤ a ∧ a < slotAddress n k + 128 ∧ Memory.read stored a ≠ 0xFF#8)
      then readRecord (Memory.readSlot stored n k) else none,
    fun n k => (if n < 128 ∧ k < 64 ∧ (∃ a, slotAddress n k ≤ a ∧ a < slotAddress n k + 128 ∧ Memory.read stored a ≠ 0xFF#8)
      then readRecord (Memory.readSlot stored n k) else none).filter (fun f => decide (∀ n' k' f',
        (if n' < 128 ∧ k' < 64 ∧ (∃ a, slotAddress n' k' ≤ a ∧ a < slotAddress n' k' + 128 ∧ Memory.read stored a ≠ 0xFF#8)
          then readRecord (Memory.readSlot stored n' k') else none) = some f' → f'.seq = f.seq →
          ¬ ((n' = n ∧ k < k') ∨ (n' ≠ n ∧ ((n' + 128 - n) % 128 < 64 ∨ ((n' + 128 - n) % 128 = 64 ∧ n < n')))))),
    fun y x => (y.1 = x.1 ∧ x.2 < y.2) ∨ (y.1 ≠ x.1 ∧ ((y.1 + 128 - x.1) % 128 < 64 ∨
      ((y.1 + 128 - x.1) % 128 = 64 ∧ x.1 < y.1))),
    fun n k => by simp only [decide_eq_true_eq], fun n k f => ?_, fun _ _ => Iff.rfl, fun n k f => ?_, stored_wf.1, by decide +kernel⟩
  · simp only [decide_eq_true_eq]
    split <;> simp_all
  · simp only [Option.filter_eq_some_iff, decide_eq_true_eq]

/-- The scan finds the entries of that area, and the copy that is still to be made; the predicates that the statement on the settings area
names are definitions. -/
theorem witness_settings_scan : scanSettings interrupted =
    ⟨none, some ⟨129, 0, 5, .epoch 2 9⟩, some ⟨128, 1, 4, .mark .supply 6⟩, none, 129, 128, 1, 6⟩ ∧
    (⟨none, some ⟨129, 0, 5, .epoch 2 9⟩, some ⟨128, 1, 4, .mark .supply 6⟩, none, 129, 128, 1, 6⟩ : SettingsScan).copies =
      [.mark .supply 6] ∧ 1 + [Setting.mark .supply 6].length ≤ 64 := by decide +kernel

theorem witness_program_slot : Memory.wf [] = true ∧ slotErased [] 127 63 = true ∧ someRec.payload.encode.length ≤ 106 := by decide

theorem witness_setting : (match Setting.mark .premises 4294967295 with
    | .profile number _ => number < 4294967296
    | .epoch number base => number < 65536 ∧ base < 4294967296
    | .mark q m => q ≠ .field ∧ m < 4294967296) := by decide

/-- An engine with two half-cycles of 64 frames of the lowest sample. -/
def clipped : Engine := { resetEngine Profile.default with
  openSum := Tri.all (64 * 2 ^ 30), openCount := 64, openClip := Tri.all 64
  prevSum := Tri.all (64 * 2 ^ 30), prevCount := 64, prevClip := Tri.all 64, prevValid := Tri.all true }

theorem witness_one_cycle_value : clipped.prevValid.get .c2 = true ∧ 128 ≤ clipped.prevCount + clipped.openCount ∧
    clipped.prevCount + clipped.openCount ≤ 256 ∧
    clipped.prevSum.get .c2 + clipped.openSum.get .c2 ≤ (clipped.prevCount + clipped.openCount) * 2 ^ 30 := by decide

theorem witness_valid_profile : Profile.default.valid = true := by decide +kernel

theorem witness_frequency : 64 * 10 ≤ 1280 ∧ 1280 ≤ 128 * 10 ∧ ({ resetAggregator Profile.default with
    lockedH := 10, lockedN := 1280 } : Aggregator).lockedH = 10 := by decide

/-- A full table of 64 entries, each with its own duration or depth, seen at rising frames from entry 1 on and at frame 0 in entry 0. -/
def fullTable : Part := { live with recurrence := ⟨(List.range 64).map (fun i =>
    some ⟨⟨.swell, ⟨true, false, false⟩, i / 16, i % 16⟩, 2, ⟨1, 0⟩, ⟨1, i⟩, false⟩), 64⟩ }

theorem witness_lookup_hit : learned.recurrence.entries.length = 64 ∧
    (learned.lookup .dip ⟨true, false, false⟩ 11500 10 20).1 = (0, 3) ∧
    learned.recurrence.entries[0]? = some (some ⟨⟨.dip, ⟨true, false, false⟩, 4, 3⟩, 2, ⟨1, 5⟩, ⟨1, 9⟩, false⟩) ∧
    signatureOf .dip ⟨true, false, false⟩ 11500 10 learned.profile.inForce.udecl.toNat = ⟨.dip, ⟨true, false, false⟩, 4, 3⟩ ∧
    11500 ≤ learned.profile.inForce.udecl.toNat ∧ 1 ≤ learned.profile.inForce.udecl.toNat ∧
    (signatureOf .swell ⟨true, false, false⟩ 25875 10 learned.profile.inForce.udecl.toNat).depth = 4 ∧
    (signatureOf .swell ⟨true, false, false⟩ 25874 10 learned.profile.inForce.udecl.toNat).depth = 3 := by
  decide +kernel

/-- R157, R158: the first field out of range with code 0, at 1 and at 28; a cross-field check with its index and order number. -/
theorem witness_profile_checks : { Profile.default with udecl := 60001 }.failure = some (1, 0) ∧
    { Profile.default with noteTimeout := 0 }.failure = some (28, 0) ∧ { Profile.default with channels := 6 }.failure = some (4, 1) ∧
    { Profile.default with rvcThr := 80, swellThr := 1080 }.failure = some (13, 6) ∧
    { Profile.default with capPre := 2048, capPost := 2304 }.failure = some (20, 8) := by decide +kernel

theorem witness_lookup_miss : (learned.lookup .dip ⟨true, true, false⟩ 11500 10 20).1 = (1, 1) ∧
    (fullTable.lookup .dip ⟨true, true, false⟩ 11500 10 20).1 = (0, 1) ∧ fullTable.recurrence.entries.length = 64 := by decide +kernel

theorem witness_nothing_due : live.dueNote = none ∧ live.resyncDue = false ∧ live.seamDue = false ∧ live.forcedDue = none ∧ live.freeRunDue = none ∧
    (∀ i, i < 4 → live.slotFullDue i = false ∧ live.expiryDue i = false) ∧ live.candidateDue = false ∧
    live.quietDue .dip = false ∧ live.quietDue .swell = false ∧ live.quietDue .rvc = false := by decide +kernel

theorem witness_queue_rooms : live.commit.priority.length < 24 ∧ live.commit.overflow = none ∧ live.journal.state ≠ .faulted ∧
    24 ≤ crowded.commit.priority.length ∧ live.commit.bulk.length < 8 ∧ live.journal.state ≠ .blocked ∧
    8 ≤ crowded.commit.bulk.length := by decide +kernel

theorem witness_release_waiting : ([someRec] ++ releaseRec .premises :: [releaseRec .supply]).find? (isReleaseOf .premises) =
      some (releaseRec .premises) ∧ isReleaseOf .premises someRec = false ∧
    (releaseRec .premises).payload = .release .premises 4 2 ∧ ∀ x ∈ live.commit.priority, isReleaseOf .supply x = false := by
  decide +kernel

/-- A part whose writer has chosen SUPPLY's RELEASE and waits for a burst of FIELD's, another record behind it. -/
def releaseChosen : Part := { live with
  commit := { resetCommit with priority := [releaseRec .supply, someRec] }, array := ⟨some (.burst .field), .port .field, some .priority, none⟩ }

/-- R124: the RELEASE that replaces the chosen one is the one taken, the older record behind it, after its MARK entry. -/
theorem test_replaced_release : (releaseChosen.offerRelease .supply 0 0).map (fun p => p.array.chosenRelease) = some (some .supply) ∧
    (after (.settingsProgramComplete true) (after .readBurstLands (after (.release .supply 1 0)
      (machine releaseChosen)))).part.commit.inHand.map Rec.payload = some (.release .supply 0 2) := by decide +kernel

/-- The two records that can be taken: the oldest where no RELEASE is chosen, else that RELEASE, whatever stands before it. -/
theorem witness_chosen_record : live.array.chosenRelease = none ∧
    ({ resetCommit with priority := [someRec, releaseRec .supply] } : Commit).chosen (some .supply) = some (releaseRec .supply) ∧
    isReleaseOf .supply (releaseRec .supply) = true ∧ isReleaseOf .supply someRec = false ∧
    ({ resetCommit with priority := [someRec, releaseRec .supply] } : Commit).chosen none = some someRec ∧
    ({ resetCommit with priority := [someRec] } : Commit).chosen (some .supply) = some someRec := by decide +kernel

/-- A part with a record waiting and FIELD's note behind it. -/
def waiting : Part := withPort { live with commit := { resetCommit with priority := [someRec], bulk := [someRec] } } .field
  (fun t => { t with note := .awaiting ⟨0, [], 0, false⟩ someRec })

theorem witness_freed_entry : waiting.commit.priority = [someRec] ∧ waiting.commit.bulk = [someRec] ∧ waiting.commit.overflow = none ∧
    (waiting.ports.get .field).waitingNote = some someRec ∧ (waiting.ports.get .supply).waitingNote = none ∧
    (waiting.ports.get .premises).waitingNote = none ∧ waiting.journal.state ≠ .faulted ∧
    ({ waiting.commit with overflow := some (newOverflow 10) } : Commit).overflow = some (newOverflow 10) := by decide +kernel

/-- A part with 15 records in PRIORITY, FIELD's note waiting and the array BUSY. -/
def fifteen : Part := withPort { running with commit := { resetCommit with priority := List.replicate 15 someRec } } .field
  (fun t => { t with note := .awaiting ⟨0, [], 0, false⟩ someRec })

/-- R122: the request is first, and the note stays waiting; any other command lets the note enter first. -/
theorem test_request_before_note : ((after (.markTime .supply 1 0 0) (machine fifteen)).part.ports.get .field).note =
      .awaiting ⟨0, [], 0, false⟩ someRec ∧
    ((after (.markTime .supply 1 0 0) (machine fifteen)).part.ports.get .supply).response.map Response.status = some .ok ∧
    ((after (.readTallies .supply 1) (machine fifteen)).part.ports.get .field).note = .idle := by decide +kernel

theorem witness_request_before_note : (machine fifteen).servesAsked .supply ∧ (0#8).toNat ≤ 3 ∧
    (machine fifteen).asked.commit.priority.length = 15 ∧ (machine fifteen).asked.journal.state ≠ .faulted ∧
    fifteen.commit.priority.length < 16 :=
  ⟨servesAsked_of (by decide +kernel), by decide, by decide +kernel, by decide +kernel, by decide +kernel⟩

theorem witness_weighted_choice : ({ waiting.commit with credit := 8 } : Commit).priority ≠ [] ∧
    ({ waiting.commit with credit := 8 } : Commit).bulk ≠ [] ∧ ({ waiting.commit with credit := 8 } : Commit).credit ≤ 8 := by
  decide +kernel

theorem witness_request_gates : (Instr.captureNow .supply 1).wire = some ⟨.supply, 6, 1, []⟩ ∧
    (machine (withPort live .supply (fun t => { t with inProgress := some ⟨9, .release 0, false⟩ }))).found.ports.supply.inProgress =
      some ⟨9, .release 0, false⟩ ∧
    State.reset.found.isStarting = true ∧ (State.reset.found.ports.get .supply).inProgress = none ∧
    (machine { live with failing := true }).found.failing = true ∧
    ((machine (withPort live .supply (fun t => { t with inProgress := some ⟨9, .release 0, false⟩ }))).foundBy
      (.noteEnd .supply 1)).ports.supply.inProgress = some ⟨9, .release 0, false⟩ ∧
    (State.reset.foundBy (.noteEnd .supply 1)).isStarting = true := by decide +kernel

theorem witness_served : (machine live).serves .supply ∧ (machine { live with failing := true }).serves .field ∧
    (machine running).serves .premises :=
  ⟨serves_of (by decide +kernel), serves_of (by decide +kernel), serves_of (by decide +kernel)⟩

theorem witness_first_frame : (machine live).alive = true ∧ live.isStarting = false ∧ live.failing = false ∧
    live.receiver.acq = .absent ∧ live.receiver.assembling = [] := by decide +kernel

theorem witness_running_frame : (machine running).alive = true ∧ running.isStarting = false ∧ running.failing = false ∧
    running.receiver.acq = .running ∧ running.receiver.assembling = [] ∧ running.receiver.lastSeq = some 7 ∧
    running.receiver.lastSamples = some (Tri.all 100) ∧ ((7 : Byte) - 7).toNat = 0 ∧ ((8 : Byte) - 7).toNat = 1 ∧
    ((12 : Byte) - 7).toNat = 5 ∧ running.receiver.frameIndex + 5 ≤ 281474976710655 ∧ running.receiver.substituted ≤ 65535 ∧
    running.capture.ring.length ≤ 2048 := by decide +kernel

/-- A chain's slot that holds frames 496 to 500 and has room for `room`, and a HELD one. -/
def rising (room : Nat) : CapSlot :=
  ⟨false, 3, .manual, none, .party .field, 500, 496, 5, List.replicate 5 ⟨Tri.all 100, false⟩, room, 0, 4096, 1024, none, false, ⟨false, false, false⟩, 0, 0⟩

/-- R106: frame 505 after frame 500 enters a FILLING slot behind four substitutes; a HELD slot takes none. -/
theorem witness_filling : (rising 6).held = false ∧ 5 < (rising 6).remaining ∧
    (rising 6).firstFrame + (rising 6).frames.length = running.receiver.frameIndex + 1 ∧
    ((after (.sampleFrame (sampleLine 12 (Tri.all 55))) (machine { running with capture := { resetCapture with
      slots := [some (rising 6), some { rising 0 with serial := 2, held := true, holdStart := 100, holdLength := 36864000 }] } })).part.capture.slots.map
        (fun c => c.map (fun c => (c.frames.length, c.remaining, c.frames.countP CapFrame.substituted)))) =
      [some (10, 1, 4), some (5, 0, 0)] ∧
    running.receiver.frameIndex + 5 < 100 + 36864000 := by decide +kernel

/-- The running part LOST with its last frame 25 ms old. -/
def lost : Part := { running with localTime := 63, receiver := { running.receiver with acq := .lost } }

theorem witness_gap : (machine running).entered = running ∧ (machine lost).entered = lost ∧
    (machine running).found = running ∧ (machine lost).found = lost ∧ running.profile.deferral = none ∧
    ((13 : Byte) - 7).toNat = 6 ∧ lost.receiver.lastFrameTime = some 38 ∧ min 4294967295 (lost.localTime - 38) * 256 / 25 = 256 ∧
    running.commit.priority.length < 24 ∧ running.commit.overflow = none ∧ running.journal.state ≠ .faulted ∧
    running.array.op.isSome = true ∧ running.capture.slots = [none, none, none, none] := by decide +kernel

/-- The running part with two chains FILLING, the later serial in the lower slot, and one HELD. -/
def manyChains : Part := { running with capture := { resetCapture with slots := [
  some ⟨false, 5, .manual, none, .party .field, 400, 401, 0, [], 9, 0, 4096, 1024, none, false, ⟨false, false, false⟩, 0, 0⟩,
  some ⟨false, 3, .manual, none, .party .field, 390, 391, 0, [], 9, 0, 4096, 1024, none, false, ⟨false, false, false⟩, 0, 0⟩,
  some ⟨true, 2, .manual, none, .party .field, 90, 91, 0, [], 0, 0, 4096, 1024, none, false, ⟨false, false, false⟩, 100, 36864000⟩, none] } }

/-- R108: a gap before frame 506 ends both FILLING chains, held from that frame, and leaves the HELD one alone. -/
theorem witness_gap_with_chains : (machine manyChains).entered = manyChains ∧ (machine manyChains).found = manyChains ∧
    [3, 5].Pairwise (fun m n => m < n) ∧ manyChains.capture.fillingSerials = [3, 5] ∧ manyChains.commit.priority.length + 2 < 24 ∧
    (manyChains.captureGap 506).capture.slots.map
      (fun c => c.map (fun c => (c.serial, c.held, c.truncated, c.holdStart))) =
      [some (5, true, true, 506), some (3, true, true, 506), some (2, true, false, 100), none] := by decide +kernel

theorem witness_bad_frames : (machine live).found.receiver.assembling = [] ∧ (machine live).found.isStarting = false ∧
    (machine live).found.failing = false ∧ checkHolds [0xC3, 1, 0, 0, 0xC3, 0, 0, 0, 0, 0] = false ∧
    [0xC3#8, 1, 0, 0, 0xC3, 0, 0, 0, 0, 0].length = 10 ∧ State.reset.found.isStarting = true := by decide +kernel

/-- A part with a note of SUPPLY's begun at local time 0 and a proposal at its expiry, 10 s later. -/
def expiring : Part := withPort { running with
    localTime := 60000, receiver := { running.receiver with lastFrameTime := some 59992 }
    profile := { live.profile with proposal := some (proposal ⟨true, false, false⟩ false) } } .supply
  (fun t => { t with note := .assembling ⟨3, [65], 0, false⟩ 50000 })

theorem witness_served_asked : (machine live).servesAsked .supply ∧ (machine expiring).servesAsked .supply ∧
    (machine (withPort crowded .field (fun t => { t with note := .awaiting ⟨0, [], 0, false⟩ someRec }))).servesAsked .field :=
  ⟨servesAsked_of (by decide +kernel), servesAsked_of (by decide +kernel), servesAsked_of (by decide +kernel)⟩

theorem witness_local_time : (machine expiring).found.receiver.acq = .running ∧ (machine expiring).found.failing = false ∧
    (machine expiring).found.isStarting = false ∧ (machine expiring).found.receiver.lastFrameTime = some 59992 ∧
    59992 + 8 ≤ (machine expiring).found.localTime ∧
    (machine expiring).found.profile.proposal = some (proposal ⟨true, false, false⟩ false) ∧
    (proposal ⟨true, false, false⟩ false).expiry ≤ (machine expiring).found.localTime ∧
    ((machine expiring).found.ports.get .supply).note = .assembling ⟨3, [65], 0, false⟩ 50000 ∧
    50000 + (machine expiring).found.profile.inForce.noteTimeout.toNat * 1000 ≤ (machine expiring).found.localTime ∧
    (machine expiring).found.commit.priority.length < 16 ∧ (machine expiring).found.journal.state ≠ .faulted ∧
    16 ≤ (machine crowded).found.commit.priority.length := by decide +kernel

/-- R162: a consented proposal past its expiry does not lapse, nor one before its expiry. -/
theorem witness_no_lapse : (∃ pr, (machine deferred).found.profile.proposal = some pr ∧ pr.consented = true ∧
      pr.expiry ≤ (machine deferred).found.localTime) ∧
    (after .proposalLapse (machine deferred)).part.profile.proposal.isSome = true ∧
    (after .proposalLapse (machine { expiring with localTime := 59999 })).part.profile.proposal.isSome = true ∧
    (after .proposalLapse (machine expiring)).part.profile.proposal = none := by decide +kernel

/-- The running part with its tracker changed. -/
def tracking (f : Tracker → Tracker) : Part := { running with tracker := f running.tracker }

theorem witness_waits : (machine (tracking (fun t => { t with framesWaited := 128 }))).entered.tracker.mode = .resync ∧
    (machine (tracking (fun t => { t with framesWaited := 128 }))).entered.tracker.framesWaited = 128 ∧
    (machine (tracking (fun t => { t with mode := .locked, ret := .seam, framesWaited := 127 }))).entered.tracker.ret = .seam ∧
    (machine (tracking (fun t => { t with mode := .locked, ret := .seam, framesWaited := 127 }))).entered.tracker.framesWaited < 128 := by
  decide +kernel

theorem witness_boundaries : (tracking (fun t => { t with mode := .locked, openHalf := some ⟨372, false, some .c1⟩ })).tracker.mode =
      .locked ∧
    128 ≤ running.receiver.frameIndex - 372 ∧
    (tracking (fun t => { t with mode := .freeRunning, openHalf := some ⟨398, false, none⟩ })).tracker.mode = .freeRunning ∧
    running.profile.inForce.freeRunLength ≤ running.receiver.frameIndex - 398 ∧ running.profile.deferral = none ∧
    running.array.op.isSome = true := by decide +kernel

/-- A tracker LOCKED on channel 1 for 64 frames with its arms HIGH, and a low frame. -/
def crossing (ret : Return) : Part := tracking (fun t => { t with
  mode := .locked, openHalf := some ⟨436, false, some .c1⟩, arm := Tri.all .high, ret := ret })

theorem witness_crossings : crossings (crossing .none).profile.inForce (Tri.all (BitVec.ofInt 16 (-64))) (crossing .none).tracker.arm =
      ⟨true, true, true⟩ ∧
    armsAfter (crossing .none).profile.inForce (Tri.all (BitVec.ofInt 16 (-64))) (crossing .none).tracker.arm = Tri.all .low ∧
    crossings (crossing .none).profile.inForce (Tri.all (BitVec.ofInt 16 (-63))) (crossing .none).tracker.arm = ChanSet.empty ∧
    64 ≤ (crossing .pending).receiver.frameIndex - 436 ∧ (crossing .pending).tracker.ret = .pending ∧
    running.tracker.openHalf = none ∧ running.profile.deferral = none := by decide +kernel

/-- R19: a return applied, and a lock regained after a spell of 4 that began on channel 2, leave their TRACKING records. -/
theorem witness_tracking_records : ((crossing .pending).track (Tri.all (BitVec.ofInt 16 (-64))) false).commit.priority.map Rec.payload =
      [.tracking .referenceReturned .c1 .c1 0] ∧
    ((tracking (fun t => { t with
      mode := .freeRunning, openHalf := some ⟨430, false, none⟩, arm := Tri.all .high, spellRef := .c2, spellCount := 4 })).track
        (Tri.all (BitVec.ofInt 16 (-64))) false).commit.priority.map Rec.payload = [.tracking .lockRegained .c2 .c1 4] := by
  decide +kernel

/-- R20, R21: the squares and the clip counts that the frame which closes a half-cycle adds to it. -/
theorem test_clipped_frame_is_summed : ((crossing .none).track (Tri.all 0x8000#16) false).engine.prevSum = Tri.all 1073741824 ∧
    ((crossing .none).track (Tri.all 0x8000#16) false).engine.prevClip = Tri.all 1 ∧
    ((crossing .none).track (Tri.all 0x7FFF#16) false).engine.openSum = Tri.all 1073676289 ∧
    ((crossing .none).track (Tri.all 0x7FFF#16) false).engine.openClip = Tri.all 1 := by decide +kernel

/-- An open recorded dip and its part. -/
def openDip (folded : Bool) : OpenEvent :=
  ⟨folded, some 4, 300, 11, 11500, .c1, ⟨true, false, false⟩, ⟨false, false, false⟩, .refused, none⟩

/-- A value set without an entry. -/
def noValues : ValueSet := ⟨⟨436, 500, 64, false, false, false, true, .crossing⟩, ⟨true, true, true⟩, Tri.all none⟩

theorem witness_event_closed :
    ({ running with classifier := { resetClassifier with dip := some (openDip false) } } : Part).classifier.machine .dip =
      some (openDip false) ∧
    openCondition .dip noValues.inUse resetClassifier.flags = false ∧ running.recorderRoom = true ∧
    openCondition .dip noValues.inUse ⟨⟨true, false, false⟩, noFlags, noFlags⟩ = true := by decide +kernel

/-- R71: the summary of spec 4.4 after the dips G and H have ended. -/
theorem test_merge : ((emptySummary.merge .dip ⟨1016320, some 1016728, 4, 15200, .c2, ⟨false, true, true⟩, ⟨false, false, false, false, false⟩⟩).merge
      .dip ⟨1030600, some 1030804, 2, 19500, .c1, ⟨true, false, false⟩, ⟨false, false, false, false, false⟩⟩) =
    ⟨2, 1016320, some 1030804, 15200, .c2, ⟨true, true, true⟩, 6, ⟨false, false, false, false, false⟩⟩ := by decide +kernel

/-- A value set of one dipped value on every channel at frame 500, and a part whose dip and interruption flags are set. -/
def dipped : ValueSet := ⟨⟨400, 500, 100, false, false, false, true, .crossing⟩, ⟨true, true, true⟩, Tri.all (some ⟨1000, 0, some 900, false⟩)⟩

/-- The running part with every dip and interruption flag set, a dip fold, the slots and the frame that followed a gap. -/
def flagsUp (f : Fold) (slots : List (Option CapSlot)) (resumed : Option Nat) : Part := { running with
  classifier := { resetClassifier with flags := Tri.all ⟨true, false, true⟩ }
  folds := { running.folds with dip := f }
  capture := { resetCapture with slots := slots, nextSerial := 9, resumed := resumed } }

/-- R42, R49, R69, R103, R104: a dip that opens is recorded and takes a slot, or is refused one, or is folded; an interruption shares. -/
theorem witness_event_opened : (flagsUp resetFold (List.replicate 4 none) none).classifier.machine .dip = none ∧
    dipped.value .c1 = some 900 ∧
    ((flagsUp resetFold (List.replicate 4 none) none).openStep dipped .dip).classifier.dip.map OpenEvent.capture = some (.taken 9) ∧
    ((flagsUp resetFold (List.replicate 4 none) (some 600)).openStep dipped .dip).commit.priority.map (fun r => (r.frame, r.payload.kind)) =
      [(600, .capture)] ∧
    ((flagsUp resetFold (List.replicate 4 (some ⟨true, 2, .manual, none, .party .field, 90, 91, 0, [], 0, 0, 4096, 1024, none, false,
      ⟨false, false, false⟩, 100, 36864000⟩)) none).openStep dipped .dip).classifier.dip.map OpenEvent.capture = some .refused ∧
    ((flagsUp { resetFold with isOpen := true, runCount := 16 } (List.replicate 4 none) none).openStep dipped .dip).classifier.dip.map
      (fun e => (e.folded, e.number, e.capture)) = some (true, none, .absent) ∧
    (((flagsUp resetFold (List.replicate 4 none) none).openStep dipped .dip).openStep dipped .interruption).classifier.interruption.map
      (fun e => (e.capture, e.linked)) = some (.shared 9, some 1) ∧
    (((flagsUp resetFold (List.replicate 4 none) none).openStep dipped .dip).openStep dipped .interruption).classifier.dip.map
      OpenEvent.linked = some (some 2) := by decide +kernel

/-- The running part with an RVC candidate at its limit and a dip fold at the end of its quiet period. -/
def runOut : Part := { running with
  rvc := { resetRvc with mode := .candidate, count := 6000 }
  folds := { running.folds with dip := { resetFold with isOpen := true, runCount := 16, sinceEnd := some 3000, burst := some 4 } } }

theorem witness_run_out : (machine runOut).entered = runOut ∧ runOut.rvc.mode = .candidate ∧ 6000 ≤ runOut.rvc.count ∧ runOut.failing = false ∧
    (runOut.folds.get .dip).isOpen = true ∧ (runOut.folds.get .dip).sinceEnd = some 3000 ∧ runOut.classifier.dip = none ∧
    runOut.profile.inForce.burstQuiet.toNat ≤ 3000 ∧ ¬ runOut.profile.inForce.burstQuiet.toNat ≤ 2999 := by decide +kernel

theorem witness_forced_adoption : (machine deferred).found.profile.deferral = some ⟨100, false⟩ ∧
    (machine deferred).found.profile.proposal = some (proposal ⟨true, true, false⟩ true) ∧
    100 + 60000 ≤ (machine deferred).found.localTime ∧
    (machine { reclaiming with profile := deferred.profile }).found.journal.state = .erasing ∧
    (machine deferred).found.journal.state ≠ .erasing ∧ (machine deferred).found.journal.state ≠ .faulted ∧
    Profile.default.enrolled ≠ { Profile.default with enrolled := 1 }.enrolled := by decide +kernel

/-- A part with a consented proposal past its wait limit, an interruption recorded, a dip folded and its fold OPEN. -/
def stormy (state : JournalState) : Part := { deferred with
  engine := { live.engine with last := some dipped }
  classifier := { resetClassifier with dip := some (openDip true), interruption := some (openDip false) }
  folds := { live.folds with dip := { resetFold with isOpen := true, runCount := 16, burst := some 9 } }
  journal := { live.journal with state := state } }

/-- R53, R73, R97, R137, R166: the records of a forced adoption in their order, the PROFILE record waiting unless the journal is FAULTED; the
table keeps both events where no signature field changes. -/
theorem witness_forced_records :
    (((stormy .writing).adopt (proposal ⟨true, true, false⟩ true) 600 true).commit.priority.map (fun r => r.payload.kind)) =
      [.event, .burst] ∧
    (((stormy .faulted).adopt (proposal ⟨true, true, false⟩ true) 600 true).commit.overflow.map (fun o => (o.event, o.burst, o.profile))) =
      some (1, 1, 1) ∧
    (((stormy .writing).adopt (proposal ⟨true, true, false⟩ true) 600 true).recurrence.entries.countP Option.isSome) = 2 ∧
    (((stormy .writing).adopt { proposal ⟨true, true, false⟩ true with contents := { Profile.default with dipThr := 880 } } 600
      true).recurrence.entries.countP Option.isSome) = 0 := by decide +kernel

/-- R139: the tail is the first sector after the open one that holds a valid record. -/
theorem witness_tail_found : ((reclaiming.journal.sector ((reclaiming.journal.openSector + 1 + 0) % 128)).valid ≠ [] ∧ reclaiming.journal.tail = 1) ∧
    (live.journal.newest = none ∧ (live.journal.sector live.journal.tail).valid = [] ∧ live.journal.tail = live.journal.openSector) := by
  decide +kernel

/-- A part with a consented proposal within its wait limit, at a crossing that closes a half-cycle; an open dip makes it wait. -/
def atBoundary (dip : Option OpenEvent) : Part := { crossing .none with
  localTime := 200, profile := deferred.profile, classifier := { resetClassifier with
    flags := Tri.all ⟨dip.isSome, false, false⟩, dip := dip } }

theorem witness_adoption : (atBoundary none).profile.deferral ≠ none ∧
    (atBoundary none).profile.proposal = some (proposal ⟨true, true, false⟩ true) ∧
    (machine (atBoundary none)).found.localTime < 100 + 60000 ∧
    ((atBoundary none).settleCandidate.settleFolds.deferConditions Profile.default).any = false ∧
    ((atBoundary (some (openDip false))).settleCandidate.settleFolds.classifier.dip).isSome = true ∧
    (atBoundary none).tracker.openHalf = some ⟨436, false, some .c1⟩ ∧ 64 ≤ (atBoundary none).receiver.frameIndex - 436 ∧
    (crossings (atBoundary none).profile.inForce (Tri.all (BitVec.ofInt 16 (-64))) (atBoundary none).tracker.arm).get
      (atBoundary none).tracker.active = true ∧
    ((atBoundary none).track (Tri.all (BitVec.ofInt 16 (-64))) false).profile.number = 2 ∧
    ((atBoundary (some (openDip false))).track (Tri.all (BitVec.ofInt 16 (-64))) false).profile.number = 1 := by decide +kernel

/-- A half-cycle's value set with one value on every channel. -/
def level (u : Option Nat) (boundary : Nat) : ValueSet :=
  ⟨⟨boundary - 100, boundary, 100, false, false, false, true, .crossing⟩, ⟨true, true, true⟩, Tri.all (some ⟨1000, 0, u, false⟩)⟩

/-- The classifier's outcome with no dip or swell. -/
def calm : Outcome := ⟨false, false, false, false⟩

/-- The monitor with `n` values of 23,000 cV in its windows. -/
def monitor (mode : RvcMode) (n : Nat) : Part := { running with
  rvc := { resetRvc with mode := mode, window := List.replicate n ⟨Tri.all 23000, 7⟩, preMean := Tri.all 22000, count := n } }

/-- R60 to R63: the windows of 100 values fill and are steady, a step beyond 759 cV begins a candidate, and it ends when they are full again. -/
theorem test_rvc : ((monitor .steadyWait 99).rvcHandle (level (some 23000) 500) calm).rvc.mode = .steady ∧
    ((monitor .steadyWait 98).rvcHandle (level (some 23000) 500) calm).rvc.mode = .steadyWait ∧
    ((monitor .steady 100).rvcHandle (level (some 23760) 500) calm).rvc.mode = .candidate ∧
    ((monitor .steady 100).rvcHandle (level (some 23759) 500) calm).rvc.mode = .steady ∧
    (((monitor .candidate 99).rvcHandle (level (some 23000) 500) calm).commit.priority.map Rec.payload) = [.event {
      subType := .rvc, number := 1, start := 0, stop := some 7, halfCycles := 1, extreme := 1000, extremeChan := .c1, uss := some 1000
      chans := ⟨true, true, true⟩, flags := ⟨false, false, false, false, false, false, false, false⟩
      linked := none, serial := none, recurrence := none }] := by decide +kernel

theorem witness_rvc : 1 ≤ (monitor .steady 100).profile.inForce.rvcWindow.toNat ∧ (level (some 23000) 500).inUse.get .c1 = true ∧
    (level (some 23000) 500).someMissing = false ∧ (level none 500).value .c1 = none ∧
    allSteady (level (some 23000) 500).inUse 100 759 (slideIn 100 (monitor .candidate 99).rvc.window (entryOf (level (some 23000) 500))) =
      true ∧ (monitor .candidate 99).engine.levels.rvcBand = 759 := by decide +kernel

/-- R79, R82: a boundary at the end frame closes interval 0 and opens its own grid position, marked *gap* when a frame of it is missing. -/
theorem test_interval_grid : (Part.measure (level (some 23000) 6144000) true running).aggregator.index = 1 ∧
    (Part.measure (level (some 23000) 6143999) true running).aggregator.index = 0 ∧
    (Part.measure (level (some 23000) 18432000) false { running with
      aggregator := { running.aggregator with lastMissing := some 18432000 } }).aggregator.flags.gap = true ∧
    (Part.measure (level (some 23000) 6144000) true running).commit.bulk.map (fun r => r.payload.kind) = [.interval] := by decide +kernel

theorem witness_intervals : (∀ c, ((level (some 23000) 500).entries.get c).isSome = (level (some 23000) 500).inUse.get c) ∧
    500 < running.aggregator.stop ∧ running.aggregator.stop ≤ 6144000 ∧ running.commit.bulk.length < 8 ∧
    (∀ c, ({ resetAggregator Profile.default with sumS := Tri.all 1000, sumN := Tri.all 100 } : Aggregator).sumS.get c ≤ 100 * 2 ^ 30) := by
  refine ⟨fun c => ?_, by decide, by decide, by decide, fun c => ?_⟩ <;> cases c <;> decide

/-- A slot of a FILLING chain that is full. -/
def fullSlot (trigger : Trigger) : CapSlot :=
  ⟨false, 3, trigger, some 4, .recorder, 400, 401, 0, [], 0, 1, 4096, 1024, none, false, ⟨false, false, false⟩, 0, 0⟩

/-- A part with one slot taken and the dip that took it open. -/
def filling (c : CapSlot) : Part := { running with
  capture := { resetCapture with slots := [some c, none, none, none] }
  classifier := { resetClassifier with dip := some { openDip false with capture := .taken 3 } } }

theorem witness_slots : (machine (filling (fullSlot .dip))).entered = filling (fullSlot .dip) ∧ (filling (fullSlot .dip)).capture.slot (0#2).toNat = some (fullSlot .dip) ∧
    (filling (fullSlot .dip)).classifier.holdsChain 3 = true ∧ (filling (fullSlot .dip)).capture.chainLength 3 < 1 + 1 ∧
    (filling (fullSlot .dip)).capture.freeSlot = some 1 ∧ (fullSlot .manual).trigger = .manual ∧
    (filling { fullSlot .dip with held := true, holdStart := 100, holdLength := 400 }).receiver.delivered = true ∧
    100 + 400 ≤ running.receiver.frameIndex ∧ running.failing = false := by decide +kernel

/-- R105, R107: a slot holds the target, the pre-trigger setting and the allowance of the profile in force, a short ring or not, and the
extending slot holds the chain's. -/
theorem test_slot_settings : (after (.captureNow .field 1) (machine running)).part.capture.slots.map
      (fun c => c.map (fun c => (c.target, c.preTrigger, c.allowance, c.preCount))) =
        [some (4096, 1024, 1, 0), none, none, none] ∧
    (after (.slotFull 0) (machine (filling { fullSlot .dip with target := 300, preTrigger := 44 }))).part.capture.slots.map
      (fun c => c.map (fun c => (c.target, c.preTrigger, c.allowance, c.remaining))) =
        [some (300, 44, 1, 0), some (300, 44, 1, 4096), none, none] := by decide +kernel

/-- A part programming a record at a slot, with failures before it. -/
def programming (slot failures : Nat) : Part := { live with
  array := ⟨some .recordProgram, .writer, none, none⟩, commit := { resetCommit with inHand := some someRec }
  journal := { live.journal with writeSlot := slot, failureCount := failures } }

theorem witness_record_program : (machine (programming 62 2)).found.array.op = some .recordProgram ∧
    (machine (programming 62 2)).found.commit.inHand = some someRec ∧ (programming 62 2).journal.writeSlot < 63 ∧
    (programming 62 2).journal.nextSequence < 4294967294 ∧ (programming 62 2).journal.newest ≠ some 4294967294 ∧
    (programming 62 2).journal.failureCount < 3 ∧ 3 ≤ (programming 62 3).journal.failureCount := by decide +kernel

/-- R138, R133: the last slot uses the sector up, into the spare or into ERASING; the last sequence number brings FAULTED. -/
theorem witness_last_slot : (programming 63 0).journal.nextSequence < 4294967294 ∧ ¬ (programming 63 0).journal.writeSlot < 63 ∧
    (after (.recordProgramComplete true) (machine (programming 63 0))).part.journal.openSector = 1 ∧
    (after (.recordProgramComplete false) (machine (programming 63 0))).part.journal.openSector = 1 ∧
    ({ (programming 3 0).journal with newest := some 4294967293 } : Journal).nextSequence = 4294967294 ∧
    (after (.recordProgramComplete true) (machine { programming 3 0 with
      journal := { (programming 3 0).journal with newest := some 4294967293 } })).part.journal.faultCause = some .sequencesExhausted := by
  decide +kernel

theorem witness_failed_program : Memory.wf [] = true ∧ (someRec.encode 0).length = 35 ∧ (someRec.encode 0)[0]? ≠ some 0xFF#8 := by
  decide +kernel

theorem witness_tail : live.journal.spare = true ∧ reclaiming.journal.spare = false ∧ reclaiming.reclaimable = true ∧
    ({ reclaiming with journal := { reclaiming.journal with markSupply := some 0 } } : Part).reclaimable = false ∧
    (reclaiming.setJournalState .writing).journal.state = .writing ∧ 64 ≤ reclaiming.journal.writeSlot := by decide +kernel

theorem witness_erase : (machine { reclaiming with array := ⟨some (.erase 1), .writer, none, none⟩ }).found.array.op = some (.erase 1) ∧
    (machine { reclaiming with array := ⟨some (.erase 1), .writer, none, none⟩ }).found.profile.deferral = none ∧
    (machine { reclaiming with array := ⟨some (.erase 1), .writer, none, none⟩, localTime := 60100, profile := deferred.profile }).found.profile.proposal =
      some (proposal ⟨true, true, false⟩ true) ∧
    (after .sectorEraseComplete (machine { reclaiming with
      array := ⟨some (.erase 1), .writer, none, none⟩, localTime := 60100, profile := deferred.profile })).part.profile.number = 2 := by
  decide +kernel

/-- A part programming a settings entry. -/
def setting (e : PendingSetting) (failures : Nat) : Part := { withPort live .supply (fun t => { t with
    inProgress := some ⟨9, .release 0, false⟩, ready := false }) with
  array := ⟨some .settingsProgram, .writer, none, none⟩
  journal := { live.journal with pendingSettings := [e], failureCount := failures } }

theorem witness_settings_program :
    (machine (setting ⟨.mark .supply 3, true, true, none⟩ 2)).found.array.op = some .settingsProgram ∧
    (machine (setting ⟨.mark .supply 3, true, true, none⟩ 2)).found.journal.pendingSettings = [⟨.mark .supply 3, true, true, none⟩] ∧
    (machine (setting ⟨.mark .supply 3, true, true, none⟩ 2)).found.journal.mark .supply = some 0 ∧
    ((machine (setting ⟨.mark .supply 3, true, true, none⟩ 2)).found.ports.get .supply).inProgress = some ⟨9, .release 0, false⟩ ∧
    (machine (setting ⟨.profile 2 Profile.default, false, false, some someRec⟩ 3)).found.journal.failureCount = 3 ∧
    (machine (setting ⟨.epoch 1 0, false, false, none⟩ 0)).found.journal.pendingSettings = [⟨.epoch 1 0, false, false, none⟩] := by
  decide +kernel

/-- A part whose settings program is about to fail for the fourth time, an entry with its record behind it. -/
def fourthFailure : Part := { setting ⟨.mark .supply 3, true, true, none⟩ 3 with
  journal := { (setting ⟨.mark .supply 3, true, true, none⟩ 3).journal with
    pendingSettings := [⟨.mark .supply 3, true, true, none⟩, ⟨.profile 2 Profile.default, false, false, some someRec⟩] } }

/-- R137, R165, R166, R180: the fault answers the held Release JOURNAL_FAULT with its mark as it was, withholds the waiting record, empties the
settings work and leaves the array IDLE; an overdue adoption that waited is taken. -/
theorem witness_fault_effects :
    ((after (.settingsProgramComplete false) (machine fourthFailure)).part.ports.get .supply).response =
      some ⟨9, .journalFault, .release 0 0⟩ ∧
    (after (.settingsProgramComplete false) (machine fourthFailure)).part.commit.overflow.isSome = true ∧
    (after (.settingsProgramComplete false) (machine fourthFailure)).part.journal.pendingSettings = [] ∧
    (after (.settingsProgramComplete false) (machine fourthFailure)).part.array.op = none ∧
    ((after (.settingsProgramComplete false) (machine fourthFailure)).part.ports.get .field).notices.any
      (fun n => decide (n.kind = .journalBlocked ∧ n.detail = .faulted)) = true ∧
    (({ fourthFailure with localTime := 60099, profile := deferred.profile } : Part).fault .programFailures).profile.number = 1 ∧
    (({ fourthFailure with localTime := 60100, profile := deferred.profile } : Part).fault .programFailures).profile.number = 2 := by
  decide +kernel

/-- R144, R145: a MARK entry that an adoption added, and one of a party that was dropped meanwhile. -/
theorem witness_adoption_mark : (machine (setting ⟨.mark .premises 3, false, false, none⟩ 0)).found.journal.pendingSettings =
      [⟨.mark .premises 3, false, false, none⟩] ∧
    (after (.settingsProgramComplete true) (machine (setting ⟨.mark .premises 3, false, false, none⟩ 0))).part.journal.markPremises = some 3 ∧
    (setting ⟨.mark .field 3, false, false, none⟩ 0).journal.mark .field = none := by decide +kernel

/-- A part compacting its settings with the last entry the trigger. -/
def compacting : Part := { live with
  array := ⟨some .compaction, .writer, none, none⟩
  journal := { live.journal with
    settingsSlot := 64, nextSettings := 64, pendingSettings := [⟨.mark .supply 3, true, false, none⟩]
    compaction := some ⟨[(.profile 1 Profile.default, false), (.epoch 1 0, false), (.mark .supply 3, true)], 0⟩ } }

theorem witness_compaction : (machine compacting).found.array.op = some .compaction ∧ (machine compacting).recovering = false ∧
    (machine compacting).found.journal.compaction =
      some ⟨[(.profile 1 Profile.default, false), (.epoch 1 0, false), (.mark .supply 3, true)], 0⟩ ∧
    0 + 3 < 64 ∧ (machine compacting).found.journal.nextSettings + 3 ≤ 4294967295 ∧
    (after (.compactionComplete []) (machine compacting)).part.journal.settingsActive = 129 ∧
    (after (.compactionComplete []) (machine compacting)).part.journal.settingsSlot = 3 := by decide +kernel

/-- The compaction with one settings sequence left. -/
def lastCopy : State := machine { compacting with journal := { compacting.journal with nextSettings := 4294967294 } }

/-- R148: the copy that uses the last settings sequence with copies left brings FAULTED, and RESET then tears nothing. -/
theorem witness_last_copy : lastCopy.found.array.op = some .compaction ∧ lastCopy.found.journal.nextSettings = 4294967294 ∧
    lastCopy.found.journal.compaction =
      some ⟨(.profile 1 Profile.default, false) :: (.epoch 1 0, false) :: [(.mark .supply 3, true)], 0⟩ ∧
    (after (.settingsProgramComplete true) lastCopy).part.journal.faultCause = some .sequencesExhausted ∧
    (after (.settingsProgramComplete true) lastCopy).part.array.op = none := by decide +kernel

/-- The compaction at its last copy, the triggering MARK entry of a held Release, with a number and failures. -/
def atLastCopy (next failures : Nat) : State := machine { withPort compacting .supply (fun t => { t with
    inProgress := some ⟨9, .release 0, false⟩, ready := false }) with
  journal := { compacting.journal with
    nextSettings := next, failureCount := failures, pendingSettings := [⟨.mark .supply 3, true, true, none⟩]
    compaction := some ⟨[(.mark .supply 3, true)], 2⟩ } }

/-- R144, R148, R150: the triggering copy leaves the settings work, puts its mark into force and answers the held Release, with the last
settings sequence too; one that differs is retried in the next slot with its sequence, the fourth failure bringing FAULTED. -/
theorem witness_copy : (atLastCopy 4294967294 0).part.journal.compaction = some ⟨[(.mark .supply 3, true)], 2⟩ ∧
    ((atLastCopy 4294967294 0).copyDone true).part.journal.pendingSettings = [] ∧
    ((atLastCopy 4294967294 0).copyDone true).part.journal.markSupply = some 3 ∧
    ((atLastCopy 4294967294 0).copyDone true).part.journal.state ≠ .faulted ∧
    (((atLastCopy 4294967294 0).copyDone true).part.ports.get .supply).response = some ⟨9, .ok, .release 0 3⟩ ∧
    ((atLastCopy 5 2).copyDone false).part.journal.compaction = some ⟨[(.mark .supply 3, true)], 3⟩ ∧
    ((atLastCopy 5 2).copyDone false).part.journal.nextSettings = 5 ∧
    ((atLastCopy 5 3).copyDone false).part.journal.faultCause = some .programFailures ∧
    (((atLastCopy 5 3).copyDone false).part.ports.get .supply).response = some ⟨9, .journalFault, .release 0 0⟩ ∧
    (after (.compactionComplete [false, true]) (machine compacting)).part.journal.settingsSlot = 4 := by decide +kernel

/-- SUPPLY's burst landing with record 0 in the array and a Read Next of SUPPLY's held. -/
def landing (held : Option InProgress) : State := { machine { withPort live .supply (fun t => { t with
      streaming := true, burst := .inFlight 0 false, inProgress := held }) with
    array := ⟨some (.burst .supply), .port .supply, none, none⟩
    journal := { live.journal with newest := some 0, writeSlot := 1, sectors := ⟨.isOpen, [⟨0, 0, 0⟩], []⟩ :: List.replicate 127 erasedSector } } with
  memory := Memory.program [] 0 0 (someRec.encode 0) }

theorem witness_burst : (landing none).found.array.op = some (.burst .supply) ∧
    ((landing none).found.ports.get .supply).burst = .inFlight 0 false ∧ ((landing none).found.ports.get .supply).inProgress = none ∧
    (burstRecords (landing none).memory (landing none).found.journal 0).map BufRec.seq = [0] ∧
    (burstRecords (landing none).memory (landing none).found.journal 0).map BufRec.bytes = [someRec.encode 0] ∧
    ((landing (some ⟨4, .readNext 1 0, false⟩)).found.ports.get .supply).inProgress = some ⟨4, .readNext 1 0, false⟩ ∧
    ((landing (some ⟨4, .readNext 1 0, false⟩)).found.ports.get .supply).buffer = [] := by decide +kernel

/-- R133, R146: records 0 to 4 of two sectors with a dirty slot; a burst from 1 returns the four consecutive ones. -/
theorem witness_burst_places : (({ live.journal with
      openSector := 1, newest := some 4
      sectors := ⟨.full, [⟨0, 0, 0⟩, ⟨2, 1, 0⟩], [1]⟩ :: ⟨.isOpen, [⟨0, 2, 0⟩, ⟨1, 3, 0⟩, ⟨2, 4, 0⟩], []⟩ ::
        List.replicate 126 erasedSector } : Journal).retained.map (fun x => x.2.seq)) = (List.range (4 + 1 - 0)).map (fun i => 0 + i) ∧
    (burstRecords [] { live.journal with
      openSector := 1, newest := some 4
      sectors := ⟨.full, [⟨0, 0, 0⟩, ⟨2, 1, 0⟩], [1]⟩ :: ⟨.isOpen, [⟨0, 2, 0⟩, ⟨1, 3, 0⟩, ⟨2, 4, 0⟩], []⟩ ::
        List.replicate 126 erasedSector } 1).map BufRec.seq = [1, 2, 3, 4] := by decide +kernel

/-- SUPPLY's burst from a record 5 that an erase has removed, landing with record 6, and a Read Next held with an empty buffer. -/
def overtakenAt (oldest : Nat) (discard : Bool) : State := { machine { withPort live .supply (fun t => { t with
      streaming := true, cursor := 5, burst := .inFlight 5 discard, inProgress := some ⟨4, .readNext 1 0, false⟩ }) with
    array := ⟨some (.burst .supply), .port .supply, none, none⟩
    journal := { live.journal with
      newest := some oldest, writeSlot := 1, sectors := ⟨.isOpen, [⟨0, oldest, 0⟩], []⟩ :: List.replicate 127 erasedSector } } with
  memory := Memory.program [] 0 0 (someRec.encode oldest) }

/-- R179: a landing that overtakes moves the cursor up and asks again; so does one whose records are dropped. -/
theorem test_overtaken : ((after .readBurstLands (overtakenAt 6 false)).part.ports.get .supply).cursor = 6 ∧
    ((after .readBurstLands (overtakenAt 6 false)).part.ports.get .supply).burst = .inFlight 6 false ∧
    ((after .readBurstLands (overtakenAt 6 false)).part.ports.get .supply).inProgress = some ⟨4, .readNext 1 1, false⟩ ∧
    ((after .readBurstLands (overtakenAt 5 true)).part.ports.get .supply).burst = .inFlight 5 false := by decide +kernel

theorem witness_held_read : (overtakenAt 6 false).found.array.op = some (.burst .supply) ∧
    ((overtakenAt 6 false).found.ports.get .supply).burst = .inFlight 5 false ∧
    ((overtakenAt 6 false).found.ports.get .supply).buffer = [] ∧ (overtakenAt 6 false).found.journal.newest = some 6 ∧
    (overtakenAt 6 false).found.journal.oldest = 6 ∧
    (burstRecords (overtakenAt 6 false).memory (overtakenAt 6 false).found.journal 5).map BufRec.seq = [6] ∧
    ((overtakenAt 4 true).found.ports.get .supply).burst = .inFlight 5 true ∧ (overtakenAt 4 true).found.journal.newest = some 4 := by
  decide +kernel

theorem witness_power : (machine live).pins.power = true ∧ live.isStarting = false ∧ live.array.op = none ∧
    (programming 0 0).array.op = some .recordProgram ∧ (programming 0 0).commit.inHand = some someRec := by decide +kernel

theorem witness_scan : State.reset.alive = true ∧ State.reset.recovering = false ∧ State.reset.part = resetPart .powerOn 0 ∧
    (after (.readTallies .field 3) State.reset).part = { resetPart .powerOn 0 with
      localTime := 0, ports := (after (.readTallies .field 3) State.reset).part.ports } ∧
    (∀ q, ((after (.readTallies .field 3) State.reset).part.ports.get q).note = .idle) ∧
    State.reset.pins.supplyFail = false ∧ (machine live).part.isStarting = false ∧
    ({ State.reset with pins := ⟨true, true, true⟩ } : State).pins.supplyFail = true := by
  refine ⟨by decide, by decide, rfl, by decide +kernel, fun q => ?_, by decide, by decide, by decide⟩
  cases q <;> decide +kernel

theorem witness_supply_fail : (machine running).found.isStarting = false ∧ (machine running).found.failing = false ∧
    (machine running).found.array.op.isSome = true ∧ (machine { live with failing := true }).found.failing = true ∧
    ({ machine { live with failing := true } with recovering := true } : State).recovering = true ∧
    (machine live).found.commit.inHand = none ∧ (machine live).found.commit.priority = [] ∧ (machine live).found.commit.bulk = [] ∧
    (machine live).found.journal.pendingSettings = [] ∧ (machine live).found.array.op = none := by decide +kernel

/-- A recording part with an interruption recorded, a dip folded, its fold OPEN, two chains FILLING and the frame 500 delivered. -/
def failingAt (acq : Acq) : Part := { manyChains with
  receiver := { manyChains.receiver with acq := acq }
  classifier := { resetClassifier with dip := some (openDip true), interruption := some (openDip false) }
  folds := { running.folds with dip := { resetFold with isOpen := true, runCount := 16, burst := some 9 } } }

/-- R54, R74, R89, R114, R195: what the failure sequence hands on, in its order, and what it leaves; the chains are truncated when LOST. -/
theorem witness_failure_sequence :
    ((failingAt .running).supplyFail.commit.priority.map (fun r => r.payload.kind)) = [.event, .burst, .capture, .capture, .supplyFail] ∧
    ((failingAt .running).supplyFail.commit.priority.filterMap (fun r => match r.payload with
      | .capture c => some c.serial
      | _ => none)) = [3, 5] ∧
    ((failingAt .running).supplyFail.commit.bulk.map (fun r => r.payload.kind)) = [.interval] ∧
    (failingAt .running).supplyFail.aggregator.flags.short = true ∧
    ([Acq.running, .lost].map fun acq => (failingAt acq).supplyFail.capture.slots.map
      (fun c => c.map (fun c => (c.held, c.truncated, c.holdStart)))) =
        [[some (true, false, 500), some (true, false, 500), some (true, false, 100), none],
          [some (true, true, 500), some (true, true, 500), some (true, false, 100), none]] ∧
    [3, 5].Pairwise (fun m n => m < n) := by decide +kernel

theorem witness_faulty_frames : ([1, 5, 249] : List Byte).length = 3 ∧ 248 < ((([1, 5, 249] : List Byte).getD 2 0#8).toNat) ∧
    checkHolds (([1, 5, 0, 0, 0] : List Byte).take 5) = false ∧ checkHolds ((withCheck [24, 5, 0]).take 5) = true ∧
    checkHolds ((withCheck [1, 5, 1, 9]).take 6) = true ∧ requestSize 1 1 = some false ∧ ([1, 5] : List Byte).length < 3 ∧
    (live.ports.get .supply).response = none ∧ (live.ports.get .supply).inProgress = none := by decide +kernel

theorem witness_stream_requests : (machine live).found.profile.inForce.isEnrolled .supply = true ∧
    (machine live).found.profile.inForce.isEnrolled .field = false ∧ (machine live).found.journal.mark .supply = some 0 ∧
    ((machine live).found.ports.get .supply).buffer = [] ∧ ((machine crowded).found.ports.get .supply).buffer ≠ [] ∧
    (landing none).found.journal.newest = some 0 ∧ (machine live).found.journal.newest = none := by decide +kernel

theorem witness_release : ((machine live).asked.offerRelease .supply 0 0).isSome = true ∧
    (machine { crowded with commit := { crowded.commit with priority := List.replicate 16 someRec } }).asked.offerRelease .supply 0 0 =
      none := by decide +kernel

theorem witness_captures : (machine running).found.capture.freeSlot = some 0 ∧
    (machine { running with capture := { resetCapture with slots := List.replicate 4 (some { fullSlot .dip with remaining := 1 }) } }).found.capture.freeSlot = none ∧
    (machine { running with capture := { resetCapture with ring := [⟨500, Tri.all 0, false⟩] } }).found.capture.ring =
      [⟨500, Tri.all 0, false⟩] ∧
    (machine { running with capture := { resetCapture with resumed := some 500 } }).found.capture.resumed = some 500 ∧
    (machine running).found.nowFrame = 500 ∧ (machine running).found.receiver.delivered = true ∧
    (filling (fullSlot .dip)).capture.chain 3 = [fullSlot .dip] ∧ (filling (fullSlot .dip)).capture.chain 4 = [] := by decide +kernel

theorem witness_propose : (machine live).found.profile.deferral = none ∧ (machine deferred).found.profile.deferral ≠ none ∧
    (machine expiring).found.profile.proposal = some (proposal ⟨true, false, false⟩ false) ∧
    Profile.default.failure = none ∧ { Profile.default with udecl := 9999 }.failure = some (1, 0) ∧
    { Profile.default with reference := 2, channels := 5 }.failure = some (4, 1) := by decide +kernel

theorem witness_notes : ((machine live).found.ports.get .supply).note = .idle ∧
    ((machine expiring).found.ports.get .supply).note = .assembling ⟨3, [65], 0, false⟩ 50000 ∧
    ((machine live).asked.ports.get .supply).note = .idle ∧
    ((machine expiring).asked.ports.get .supply).note = .assembling ⟨3, [65], 0, false⟩ 50000 ∧
    ((machine (withPort crowded .field (fun t => { t with note := .awaiting ⟨0, [], 0, false⟩ someRec }))).found.ports.get .field).note =
      .awaiting ⟨0, [], 0, false⟩ someRec ∧
    ((machine (withPort crowded .field (fun t => { t with note := .awaiting ⟨0, [], 0, false⟩ someRec }))).asked.ports.get .field).note =
      .awaiting ⟨0, [], 0, false⟩ someRec := by decide +kernel

theorem witness_notices : ((machine live).found.ports.get .supply).notices = [] ∧
    ((machine crowded).found.ports.get .supply).notices ≠ [] ∧ (0x0FF8#16).getLsbD 3 = true ∧ (0x0FF8#16).getLsbD 11 = true ∧
    namesMaskable 0x0FF8#16 = true ∧ (0x0004#16).getLsbD 2 = true ∧ (0x1000#16).getLsbD 12 = true := by decide +kernel

/-- R189, R191: BLOCKED then FAULTED is one notice with count 2 and the later cause; a masked kind does not assert the line. -/
theorem test_raise : ((resetPort.raise .journalBlocked 1 10 .blocked).raise .journalBlocked 1 20 .faulted).notices =
      [⟨.journalBlocked, 2, 1, 20, .faulted⟩] ∧ (resetPort.raise .journalBlocked 1 10 .blocked).attention = true ∧
    (resetPort.raise .intervalClosed 1 10 .none).attention = false ∧
    (({ resetPort with notices := [⟨.eventRecorded, 65535, 1, 1, .none⟩] } : Port).raise .eventRecorded 1 20 .none).notices =
      [⟨.eventRecorded, 65535, 1, 20, .none⟩] ∧
    (({ resetPort with notices := [⟨.eventRecorded, 65535, 1, 1, .none⟩] } : Port).raise .eventRecorded 1 20 .none).attention =
      false := by decide +kernel

end Sys2Proof.Tests
end

/-! ## The integer square root (spec 00) -/

namespace Sys2Proof

theorem isqrtStep_sq_le {m k r : Nat} (h : r * r ≤ m) : isqrtStep m k r * isqrtStep m k r ≤ m := by
  unfold isqrtStep
  split
  case isTrue hbit => exact hbit
  case isFalse => exact h

theorem lt_isqrtStep_add_sq {m k r : Nat} (h : m < (r + 2 ^ (k + 1)) * (r + 2 ^ (k + 1))) :
    m < (isqrtStep m k r + 2 ^ k) * (isqrtStep m k r + 2 ^ k) := by
  unfold isqrtStep
  split
  case isTrue => rwa [Nat.add_assoc, ← Nat.two_mul, ← Nat.pow_succ']
  case isFalse hbit => exact Nat.lt_of_not_le hbit

/-- The bits below `k` complete a root that is at most the exact one and misses it by less than `2^k`. -/
theorem isqrtBits_exact {m k r : Nat} (hlow : r * r ≤ m) (hhigh : m < (r + 2 ^ k) * (r + 2 ^ k)) :
    isqrtBits m k r * isqrtBits m k r ≤ m ∧ m < (isqrtBits m k r + 1) * (isqrtBits m k r + 1) := by
  induction k generalizing r with
  | zero => exact ⟨hlow, hhigh⟩
  | succ k ih => exact ih (isqrtStep_sq_le hlow) (lt_isqrtStep_add_sq hhigh)

theorem isqrt_exact {m : Nat} (h : m < 2 ^ 64) : isqrt m * isqrt m ≤ m ∧ m < (isqrt m + 1) * (isqrt m + 1) := by
  have hhigh : m < (0 + 2 ^ 32) * (0 + 2 ^ 32) := by omega
  exact isqrtBits_exact (Nat.zero_le m) hhigh

theorem isqrt_le_of_le_mul_self {m b : Nat} (hm : m < 2 ^ 64) (h : m ≤ b * b) : isqrt m ≤ b :=
  Nat.mul_self_le_mul_self_iff.mp (Nat.le_trans (isqrt_exact hm).1 h)

/-! ## What a valid profile satisfies (R157, R158) -/

theorem firstFailure_eq_none_iff (k : Nat) (checks : List (Nat × Bool)) :
    firstFailure k checks = none ↔ ∀ check ∈ checks, check.2 = true := by
  induction checks generalizing k with
  | nil => exact ⟨fun _ _ hmem => absurd hmem List.not_mem_nil, fun _ => rfl⟩
  | cons check rest ih =>
    obtain ⟨index, good⟩ := check
    cases good with
    | false => simp only [firstFailure, Bool.false_eq_true, if_false, reduceCtorEq, List.forall_mem_cons, false_and]
    | true => simp only [firstFailure, if_true, List.forall_mem_cons, true_and, ih (k + 1)]

theorem inRange_iff (a b n : Nat) : inRange a b n = true ↔ a ≤ n ∧ n ≤ b := by
  simp only [inRange, Bool.and_eq_true, decide_eq_true_eq]

theorem Profile.valid_iff (p : Profile) :
    p.valid = true ↔ (∀ check ∈ p.rangeChecks, check.2 = true) ∧ ∀ check ∈ p.crossChecks, check.2 = true := by
  rw [← firstFailure_eq_none_iff 1 p.rangeChecks, ← firstFailure_eq_none_iff 1 p.crossChecks]
  unfold Profile.valid Profile.failure
  cases firstFailure 1 p.rangeChecks with
  | none => simp only [Option.isNone_iff_eq_none, true_and]
  | some failed => simp only [Option.isNone_some, Bool.false_eq_true, reduceCtorEq, false_and]

section ValidProfile

variable {p : Profile} (h : p.valid = true)
include h

theorem Profile.inRange_of_valid {index a b n : Nat} (hmem : (index, inRange a b n) ∈ p.rangeChecks) : a ≤ n ∧ n ≤ b :=
  (inRange_iff a b n).mp (((Profile.valid_iff p).mp h).1 _ hmem)

theorem Profile.cross_of_valid {index : Nat} {good : Prop} [Decidable good] (hmem : (index, decide good) ∈ p.crossChecks) : good :=
  of_decide_eq_true (((Profile.valid_iff p).mp h).2 _ hmem)

theorem Profile.udecl_bounds : 10000 ≤ p.udecl.toNat ∧ p.udecl.toNat ≤ 60000 :=
  Profile.inRange_of_valid h (index := 1) (by simp [Profile.rangeChecks])

theorem Profile.swellThr_bounds : 1050 ≤ p.swellThr.toNat ∧ p.swellThr.toNat ≤ 1500 :=
  Profile.inRange_of_valid h (index := 10) (by simp [Profile.rangeChecks])

theorem Profile.hyst_bounds : 5 ≤ p.hyst.toNat ∧ p.hyst.toNat ≤ 50 :=
  Profile.inRange_of_valid h (index := 12) (by simp [Profile.rangeChecks])

theorem Profile.intrThr_add_hyst_lt_dipThr : p.intrThr.toNat + p.hyst.toNat < p.dipThr.toNat :=
  Profile.cross_of_valid h (index := 11) (by simp [Profile.crossChecks])

theorem Profile.dipThr_add_hyst_lt : p.dipThr.toNat + p.hyst.toNat < 1000 :=
  Profile.cross_of_valid h (index := 9) (by simp [Profile.crossChecks])

theorem Profile.hyst_lt_swellThr : 1000 + p.hyst.toNat < p.swellThr.toNat :=
  Profile.cross_of_valid h (index := 10) (by simp [Profile.crossChecks])

theorem Profile.rvcThr_add_dipThr_lt : p.rvcThr.toNat + p.dipThr.toNat < 1000 :=
  Profile.cross_of_valid h (index := 13) (by simp [Profile.crossChecks])

theorem Profile.rvcThr_add_lt_swellThr : p.rvcThr.toNat + 1000 < p.swellThr.toNat :=
  Profile.cross_of_valid h (index := 13) (by simp [Profile.crossChecks])

end ValidProfile

end Sys2Proof

namespace Sys2Proof.Machine

/-! ## The value of a channel at a boundary (R22 to R24) -/

theorem Engine.entry_of_prevValid {e : Engine} {c : Chan} (pr : Profile) (h : e.prevValid.get c = true) :
    e.entry pr c =
      { sum := e.openSum.get c, clip := e.openClip.get c
        u := some (rmsValue (e.prevSum.get c + e.openSum.get c) (e.prevCount + e.openCount) (pr.gain c))
        overRange := rmsLimited (e.prevSum.get c + e.openSum.get c) (e.prevCount + e.openCount) (pr.gain c) ||
          decide (e.openClip.get c ≠ 0) || decide (e.prevClip.get c ≠ 0) } :=
  if_pos h

/-- `rmsLimited` says that the limit of 65,535 acted. -/
theorem rmsLimited_iff (sum count gain : Nat) :
    rmsLimited sum count gain = true ↔ 65535 < (isqrt (sum / count) * gain + 2048) / 4096 :=
  decide_eq_true_iff

theorem Engine.entry_overRange_iff {e : Engine} {c : Chan} (pr : Profile) (h : e.prevValid.get c = true) :
    (e.entry pr c).overRange = true ↔
      rmsLimited (e.prevSum.get c + e.openSum.get c) (e.prevCount + e.openCount) (pr.gain c) = true ∨
        e.openClip.get c ≠ 0 ∨ e.prevClip.get c ≠ 0 := by
  rw [Engine.entry_of_prevValid pr h]
  simp only [Bool.or_eq_true, decide_eq_true_eq, or_assoc]

/-- The root of a mean square whose samples are at most 2^15 in magnitude is at most 2^15, and 2^15 only when every sample is. -/
theorem isqrt_mean_exact {sum count : Nat} (hpos : 0 < count) (hsum : sum ≤ count * 2 ^ 30) :
    isqrt (sum / count) * isqrt (sum / count) ≤ sum / count ∧
      sum / count < (isqrt (sum / count) + 1) * (isqrt (sum / count) + 1) ∧ isqrt (sum / count) ≤ 32768 ∧
      (isqrt (sum / count) = 32768 → sum = count * 2 ^ 30) ∧ isqrt (sum / count) * isqrt (sum / count) * count ≤ sum ∧
      sum < (isqrt (sum / count) + 1) * (isqrt (sum / count) + 1) * count := by
  have hmean : sum / count ≤ 2 ^ 30 := Nat.div_le_of_le_mul hsum
  have hsmall : sum / count < 2 ^ 64 := by omega
  obtain ⟨hlow, hhigh⟩ := isqrt_exact hsmall
  have hlowSum : isqrt (sum / count) * isqrt (sum / count) * count ≤ sum := (Nat.le_div_iff_mul_le hpos).mp hlow
  have hfull : isqrt (sum / count) = 32768 → sum = count * 2 ^ 30 := by
    intro hroot
    rw [hroot] at hlowSum
    omega
  exact ⟨hlow, hhigh, isqrt_le_of_le_mul_self hsmall hmean, hfull, hlowSum, (Nat.div_lt_iff_lt_mul hpos).mp hhigh⟩

/-- Settles O16: `isqrt` is the exact root on the mean squares that can occur, and `Engine.entry` scales and limits it. -/
theorem theOneCycleValueIsExact : Obligations.TheOneCycleValueIsExact := by
  unfold Obligations.TheOneCycleValueIsExact
  rintro e pr c sum count hvalid rfl rfl hcount - hsum
  obtain ⟨hlow, hhigh, hroot, hfull, hlowSum, hhighSum⟩ := isqrt_mean_exact (Nat.lt_of_lt_of_le (by decide) hcount) hsum
  refine ⟨_, hlow, hhigh, hroot, hfull, hlowSum, hhighSum, ?value, ?overRange, fun _ => rfl⟩
  case value =>
    rw [Engine.entry_of_prevValid pr hvalid]
    rfl
  case overRange => rw [Engine.entry_overRange_iff pr hvalid, rmsLimited_iff]

/-! ## The level set (R31) -/

theorem permilleLevel_le (p : Profile) {a b : Nat} (h : a ≤ b) : permilleLevel p a ≤ permilleLevel p b :=
  Nat.div_le_div_right (Nat.mul_le_mul_left _ h)

theorem permilleLevel_thousand (p : Profile) : permilleLevel p 1000 = p.udecl.toNat :=
  Nat.mul_div_cancel _ (by decide)

/-- Two floors differ from the floor of the sum by at most 1. -/
theorem permilleLevel_add (p : Profile) (a b : Nat) :
    permilleLevel p (a + b) = permilleLevel p a + p.udecl.toNat * b / 1000 ∨
      permilleLevel p (a + b) = permilleLevel p a + p.udecl.toNat * b / 1000 + 1 := by
  unfold permilleLevel
  rw [Nat.mul_add]
  omega

section ValidLevels

variable {p : Profile} (h : p.valid = true)
include h

theorem levelsOf_ordered :
    (levelsOf p).intrStart ≤ (levelsOf p).intrEnd ∧ (levelsOf p).intrEnd ≤ (levelsOf p).dipStart ∧
      (levelsOf p).dipStart ≤ (levelsOf p).dipEnd ∧ (levelsOf p).dipEnd ≤ p.udecl.toNat ∧
      p.udecl.toNat ≤ (levelsOf p).swellEnd ∧ (levelsOf p).swellEnd ≤ (levelsOf p).swellStart := by
  have hintr := Profile.intrThr_add_hyst_lt_dipThr h
  have hdip := Profile.dipThr_add_hyst_lt h
  have hswell := Profile.hyst_lt_swellThr h
  have hdipEnd : (levelsOf p).dipEnd ≤ permilleLevel p 1000 := permilleLevel_le p (Nat.le_of_lt hdip)
  have hswellEnd : permilleLevel p 1000 ≤ (levelsOf p).swellEnd := permilleLevel_le p (by omega)
  rw [permilleLevel_thousand] at hdipEnd hswellEnd
  exact ⟨permilleLevel_le p (by omega), permilleLevel_le p (Nat.le_of_lt hintr), permilleLevel_le p (by omega), hdipEnd, hswellEnd,
    permilleLevel_le p (by omega)⟩

theorem levelsOf_swellStart_eq : (levelsOf p).swellStart = permilleLevel p (p.swellThr.toNat - p.hyst.toNat + p.hyst.toNat) := by
  have hswell := Profile.hyst_lt_swellThr h
  rw [Nat.sub_add_cancel (by omega)]
  rfl

end ValidLevels

/-- Settles O17: the permille figures of a valid profile are ordered by its cross-field checks, and `permilleLevel` is monotone and
additive up to 1. -/
theorem theLevelsFollowTheProfile : Obligations.TheLevelsFollowTheProfile := by
  unfold Obligations.TheLevelsFollowTheProfile
  intro p h
  obtain ⟨-, hudecl⟩ := Profile.udecl_bounds h
  obtain ⟨-, hthr⟩ := Profile.swellThr_bounds h
  have hhyst := Profile.hyst_bounds h
  have hintr := Profile.intrThr_add_hyst_lt_dipThr h
  have hdip := Profile.dipThr_add_hyst_lt h
  have hswell := Profile.hyst_lt_swellThr h
  have hrvcDip := Profile.rvcThr_add_dipThr_lt h
  have hrvcSwell := Profile.rvcThr_add_lt_swellThr h
  refine ⟨rfl, Nat.mul_le_mul hudecl hthr, ⟨hintr, hdip, by omega, by omega⟩, levelsOf_ordered h, ⟨by omega, by omega⟩, ?_⟩
  rintro start stop (hpair | hpair | hpair) <;> cases hpair
  · exact permilleLevel_add p _ _
  · rw [levelsOf_swellStart_eq h]
    exact permilleLevel_add p _ _
  · exact permilleLevel_add p _ _

end Sys2Proof.Machine

/-! ## The channels in ascending order -/

namespace Sys2Proof

theorem Chan.list_ascending : Chan.list.Pairwise (fun c d => c.number < d.number) := by decide

theorem Chan.mem_list (c : Chan) : c ∈ Chan.list := by cases c <;> decide

end Sys2Proof

namespace Sys2Proof.Machine

/-! ## The best of a value set's figures (R61, R62) -/

/-- `m` is the largest figure of the channels `cs`, on `ch`, the lowest-numbered of those that have it (R61). -/
def FirstLargest (figures : Tri (Option Nat)) (cs : List Chan) (m : Nat) (ch : Chan) : Prop :=
  ch ∈ cs ∧ figures.get ch = some m ∧ ∀ c ∈ cs, ∀ n, figures.get c = some n → n ≤ m ∧ (c.number < ch.number → n < m)

/-- A channel's figure is not greater than the best so far, which there then is. -/
def Unbeaten (figures : Tri (Option Nat)) (best : Option (Nat × Chan)) (c : Chan) : Prop :=
  ∀ n, figures.get c = some n → ∃ b, best = some b ∧ n ≤ b.1

theorem FirstLargest.cons {figures : Tri (Option Nat)} {cs : List Chan} {m : Nat} {c ch : Chan} (h : FirstLargest figures cs m ch)
    (hc : ∀ n, figures.get c = some n → n < m) : FirstLargest figures (c :: cs) m ch := by
  obtain ⟨hmem, hget, hmax⟩ := h
  refine ⟨List.mem_cons_of_mem c hmem, hget, List.forall_mem_cons.mpr ⟨fun n hn => ?_, hmax⟩⟩
  exact ⟨Nat.le_of_lt (hc n hn), fun _ => hc n hn⟩

/-- A figure that no later channel beats is the largest of all. -/
theorem FirstLargest.head {figures : Tri (Option Nat)} {cs : List Chan} {m : Nat} {c : Chan} (hget : figures.get c = some m)
    (horder : ∀ d ∈ cs, c.number < d.number) (hmax : ∀ d ∈ cs, Unbeaten figures (some (m, c)) d) :
    FirstLargest figures (c :: cs) m c := by
  refine ⟨List.mem_cons_self, hget, List.forall_mem_cons.mpr ⟨fun n hn => ?_, fun d hd n hn => ?_⟩⟩
  · cases hget.symm.trans hn
    exact ⟨Nat.le_refl m, fun hlt => absurd hlt (Nat.lt_irrefl _)⟩
  · obtain ⟨_, ⟨⟩, hle⟩ := hmax d hd n hn
    exact ⟨hle, fun hlt => absurd hlt (Nat.lt_asymm (horder d hd))⟩

theorem takeBetter_greater_cases (figures : Tri (Option Nat)) (best : Option (Nat × Chan)) (c : Chan) :
    (takeBetter greater figures best c = best ∧ Unbeaten figures best c) ∨
      ∃ n, takeBetter greater figures best c = some (n, c) ∧ figures.get c = some n ∧ ∀ b, best = some b → b.1 < n := by
  cases hget : figures.get c with
  | none => exact .inl ⟨by simp only [takeBetter, hget], fun n hn => nomatch hget.symm.trans hn⟩
  | some n =>
    cases best with
    | none => exact .inr ⟨n, by simp only [takeBetter, hget], rfl, fun b hb => nomatch hb⟩
    | some b =>
      by_cases hlt : b.1 < n
      · exact .inr ⟨n, by simp [takeBetter, hget, greater, hlt], rfl, fun _ hb => Option.some.inj hb ▸ hlt⟩
      · refine .inl ⟨by simp [takeBetter, hget, greater, hlt], fun k hk => ⟨b, rfl, ?_⟩⟩
        cases hget.symm.trans hk
        exact Nat.le_of_not_lt hlt

/-- The best so far is kept when no channel beats it; else the largest figure takes its place, on its lowest-numbered channel (R62). -/
theorem foldl_takeBetter_cases (figures : Tri (Option Nat)) {cs : List Chan} (horder : cs.Pairwise (fun c d => c.number < d.number))
    (best : Option (Nat × Chan)) :
    (cs.foldl (takeBetter greater figures) best = best ∧ ∀ c ∈ cs, Unbeaten figures best c) ∨
      ∃ m ch, cs.foldl (takeBetter greater figures) best = some (m, ch) ∧ (∀ b, best = some b → b.1 < m) ∧
        FirstLargest figures cs m ch := by
  induction cs generalizing best with
  | nil => exact .inl ⟨rfl, fun _ hmem => absurd hmem List.not_mem_nil⟩
  | cons c cs ih =>
    obtain ⟨hfirst, horder⟩ := List.pairwise_cons.mp horder
    rw [List.foldl_cons]
    obtain ⟨hstep, hkept⟩ | ⟨n, hstep, hget, hbeats⟩ := takeBetter_greater_cases figures best c <;> rw [hstep]
    · refine (ih horder best).imp ?_ ?_
      · rintro ⟨hfold, hrest⟩
        exact ⟨hfold, List.forall_mem_cons.mpr ⟨hkept, hrest⟩⟩
      · rintro ⟨m, ch, hfold, hbeats, hlargest⟩
        refine ⟨m, ch, hfold, hbeats, hlargest.cons (fun n hn => ?_)⟩
        obtain ⟨b, hb, hle⟩ := hkept n hn
        exact Nat.lt_of_le_of_lt hle (hbeats b hb)
    · obtain ⟨hfold, hrest⟩ | ⟨m, ch, hfold, hmore, hlargest⟩ := ih horder (some (n, c))
      · exact .inr ⟨n, c, hfold, hbeats, FirstLargest.head hget hfirst hrest⟩
      · have hlt : n < m := hmore _ rfl
        refine .inr ⟨m, ch, hfold, fun b hb => Nat.lt_trans (hbeats b hb) hlt, hlargest.cons (fun k hk => ?_)⟩
        cases hget.symm.trans hk
        exact hlt

theorem pickBest_greater_cases (figures : Tri (Option Nat)) (best : Option (Nat × Chan)) :
    (pickBest greater figures best = best ∧ ∀ c, Unbeaten figures best c) ∨
      ∃ m ch, pickBest greater figures best = some (m, ch) ∧ (∀ b, best = some b → b.1 < m) ∧
        FirstLargest figures Chan.list m ch :=
  (foldl_takeBetter_cases figures Chan.list_ascending best).imp_left
    fun ⟨hfold, hkept⟩ => ⟨hfold, fun c => hkept c c.mem_list⟩

/-! ## A value set at the monitor (R57, R59 to R62) -/

theorem ValueSet.someMissing_iff (vs : ValueSet) : vs.someMissing = true ↔ ∃ c, vs.inUse.get c = true ∧ vs.value c = none := by
  simp only [ValueSet.someMissing, ChanSet.any_iff, Option.isNone_iff_eq_none]

theorem ValueSet.anyOverRange_iff (vs : ValueSet) :
    vs.anyOverRange = true ↔ ∃ c e, vs.entries.get c = some e ∧ vs.inUse.get c = true ∧ e.overRange = true := by
  simp only [ValueSet.anyOverRange, ChanSet.any_iff]
  refine exists_congr fun c => ?_
  cases vs.entries.get c <;> simp

theorem slideIn_eq (width : Nat) (w : List WindowEntry) (e : WindowEntry) :
    slideIn width w e = (if w.length < width then w else w.drop 1) ++ [e] := by
  by_cases h : w.length < width
  · simp only [slideIn, Nat.not_le.mpr h, h, if_true, if_false]
  · simp only [slideIn, Nat.le_of_not_lt h, h, if_true, if_false]

theorem slideIn_ne_nil (width : Nat) (w : List WindowEntry) (e : WindowEntry) : slideIn width w e ≠ [] := by
  simp [slideIn_eq]

theorem windowSteady_iff (width band : Nat) (w : List WindowEntry) (c : Chan) :
    windowSteady width band w c = true ↔ w.length = width ∧ ∀ e ∈ w, absDiff (e.u.get c) (windowMean width w c) ≤ band := by
  simp only [windowSteady, windowOf, Bool.and_eq_true, decide_eq_true_eq, List.all_map, List.all_eq_true, Function.comp_apply]

/-- The windows are of one length (R57), so with a channel in use they are full together. -/
theorem allSteady_iff {inUse : ChanSet} (huse : ∃ c, inUse.get c = true) (width band : Nat) (w : List WindowEntry) :
    allSteady inUse width band w = true ↔
      w.length = width ∧ ∀ c, inUse.get c = true → ∀ e ∈ w, absDiff (e.u.get c) (windowMean width w c) ≤ band := by
  obtain ⟨x, hx⟩ := huse
  simp only [allSteady, ChanSet.every_iff, windowSteady_iff]
  exact ⟨fun h => ⟨(h x hx).1, fun c hc => (h c hc).2⟩, fun h c hc => ⟨h.1, h.2 c hc⟩⟩

/-- A value set with a value on every channel in use and on no other; `u` names the values, 0 where there is none. -/
structure ValueSet.Carries (vs : ValueSet) (u : Chan → Nat) : Prop where
  isSome : ∀ c, (vs.value c).isSome = vs.inUse.get c
  getD : ∀ c, u c = (vs.value c).getD 0

/-- The deviation of a channel's value from its mean (R61, R62). -/
def deviation (u : Chan → Nat) (means : Tri Nat) (c : Chan) : Nat := absDiff (u c) (means.get c)

section Carried

variable {vs : ValueSet} {u : Chan → Nat} (h : vs.Carries u)
include h

theorem ValueSet.Carries.value_eq (c : Chan) : vs.value c = if vs.inUse.get c then some (u c) else none := by
  rw [h.getD c, ← h.isSome c]
  cases vs.value c <;> rfl

theorem ValueSet.Carries.someMissing : vs.someMissing = false := by
  rw [← Bool.not_eq_true, vs.someMissing_iff]
  rintro ⟨c, huse, hnone⟩
  rw [h.value_eq, if_pos huse] at hnone
  cases hnone

theorem ValueSet.Carries.entryOf_eq : entryOf vs = ⟨⟨u .c1, u .c2, u .c3⟩, vs.result.start⟩ := by
  rw [h.getD, h.getD, h.getD]
  rfl

theorem ValueSet.Carries.deviations_get (means : Tri Nat) (c : Chan) :
    (deviations vs means).get c = if vs.inUse.get c then some (deviation u means c) else none := by
  rw [deviations, Tri.get_build, h.value_eq]
  split <;> rfl

theorem ValueSet.Carries.deviations_some {means : Tri Nat} {c : Chan} {n : Nat} :
    (deviations vs means).get c = some n ↔ vs.inUse.get c = true ∧ deviation u means c = n := by
  rw [h.deviations_get]
  cases vs.inUse.get c <;> simp

theorem ValueSet.Carries.beyond_eq (band : Nat) (means : Tri Nat) :
    beyond band (deviations vs means) = Tri.build (fun c => vs.inUse.get c && decide (band < deviation u means c)) := by
  refine Tri.ext_get fun c => ?_
  rw [beyond, Tri.get_build, Tri.get_build, h.deviations_get]
  cases vs.inUse.get c <;> rfl

theorem ValueSet.Carries.any_beyond_iff (band : Nat) (means : Tri Nat) :
    vs.inUse.any (beyond band (deviations vs means)).get = true ↔ ∃ c, vs.inUse.get c = true ∧ band < deviation u means c := by
  rw [h.beyond_eq, ChanSet.any_iff]
  refine exists_congr fun c => ?_
  rw [Tri.get_build, Bool.and_eq_true, decide_eq_true_eq]
  exact and_congr_right fun huse => and_iff_right huse

theorem ValueSet.Carries.firstLargest {means : Tri Nat} {m : Nat} {ch : Chan}
    (hbest : FirstLargest (deviations vs means) Chan.list m ch) :
    vs.inUse.get ch = true ∧ m = deviation u means ch ∧
      ∀ c, vs.inUse.get c = true → deviation u means c ≤ m ∧ (c.number < ch.number → deviation u means c < m) := by
  obtain ⟨-, hget, hmax⟩ := hbest
  obtain ⟨huse, heq⟩ := h.deviations_some.mp hget
  exact ⟨huse, heq.symm, fun c hc => hmax c c.mem_list _ (h.deviations_some.mpr ⟨hc, rfl⟩)⟩

/-- With a channel in use, the deviation a candidate begins with is the largest, on its lowest-numbered channel (R61). -/
theorem ValueSet.Carries.pickBest_none (huse : ∃ c, vs.inUse.get c = true) (means : Tri Nat) :
    ∃ ch, pickBest greater (deviations vs means) none = some (deviation u means ch, ch) ∧ vs.inUse.get ch = true ∧
      ∀ c, vs.inUse.get c = true →
        deviation u means c ≤ deviation u means ch ∧ (c.number < ch.number → deviation u means c < deviation u means ch) := by
  obtain ⟨x, hx⟩ := huse
  obtain ⟨-, hunbeaten⟩ | ⟨m, ch, hpick, -, hbest⟩ := pickBest_greater_cases (deviations vs means) none
  · obtain ⟨_, hb, -⟩ := hunbeaten x _ (h.deviations_some.mpr ⟨hx, rfl⟩)
    cases hb
  · obtain ⟨hch, rfl, hmax⟩ := h.firstLargest hbest
    exact ⟨ch, hpick, hch, hmax⟩

/-- ΔUmax is replaced by the largest deviation when that is strictly greater (R62). -/
theorem ValueSet.Carries.pickBest_some (means : Tri Nat) (uMax : Nat) (on : Chan) :
    ∃ m ch, pickBest greater (deviations vs means) (some (uMax, on)) = some (m, ch) ∧
      (((∀ c, vs.inUse.get c = true → deviation u means c ≤ uMax) ∧ m = uMax ∧ ch = on) ∨
        (vs.inUse.get ch = true ∧ m = deviation u means ch ∧ uMax < m ∧
          ∀ c, vs.inUse.get c = true → deviation u means c ≤ m ∧ (c.number < ch.number → deviation u means c < m))) := by
  obtain ⟨hpick, hunbeaten⟩ | ⟨m, ch, hpick, hmore, hbest⟩ := pickBest_greater_cases (deviations vs means) (some (uMax, on))
  · refine ⟨uMax, on, hpick, .inl ⟨fun c hc => ?_, rfl, rfl⟩⟩
    obtain ⟨_, ⟨⟩, hle⟩ := hunbeaten c _ (h.deviations_some.mpr ⟨hc, rfl⟩)
    exact hle
  · obtain ⟨hch, heq, hmax⟩ := h.firstLargest hbest
    exact ⟨m, ch, hpick, .inr ⟨hch, heq, hmore _ rfl, hmax⟩⟩

theorem ValueSet.Carries.follow_eq {band m : Nat} {ch : Chan} {r : Rvc} (width : Nat)
    (hpick : pickBest greater (deviations vs r.preMean) (some (r.uMax, r.uMaxChan)) = some (m, ch)) :
    r.follow vs width band = { r with
      count := r.count + 1, uMax := m, uMaxChan := ch, window := slideIn width r.window (entryOf vs)
      affected := r.affected.union (Tri.build (fun c => vs.inUse.get c && decide (band < deviation u r.preMean c)))
      flags := { r.flags with
        overRange := r.flags.overRange || vs.anyOverRange
        freeRunning := r.flags.freeRunning || vs.result.freeRunning } } := by
  rw [Rvc.follow, hpick, h.beyond_eq]
  rfl

/-- STEADY with every deviation within the band: the windows slide (R61). -/
theorem ValueSet.Carries.rvcSteady_within {p : Part}
    (hwithin : ∀ c, vs.inUse.get c = true →
      deviation u (Tri.build (windowMean p.profile.inForce.rvcWindow.toNat p.rvc.window)) c ≤ p.engine.levels.rvcBand) :
    p.rvcSteady vs =
      { p with rvc := { p.rvc with window := slideIn p.profile.inForce.rvcWindow.toNat p.rvc.window (entryOf vs) } } := by
  refine if_neg fun hany => ?_
  obtain ⟨c, huse, hlt⟩ := (h.any_beyond_iff _ _).mp hany
  exact Nat.not_lt.mpr (hwithin c huse) hlt

/-- STEADY with a deviation beyond the band: a candidate begins with the largest deviation (R61, R70). -/
theorem ValueSet.Carries.rvcSteady_beyond {p : Part} {means : Tri Nat} {x : Chan}
    (hmeans : means = Tri.build (windowMean p.profile.inForce.rvcWindow.toNat p.rvc.window)) (huse : vs.inUse.get x = true)
    (hbeyond : p.engine.levels.rvcBand < deviation u means x) :
    ∃ ch, vs.inUse.get ch = true ∧
      (∀ c, vs.inUse.get c = true →
        deviation u means c ≤ deviation u means ch ∧ (c.number < ch.number → deviation u means c < deviation u means ch)) ∧
      p.rvcSteady vs = { p with
        rvc := {
          mode := .candidate, window := [], preMean := means, uMax := deviation u means ch, uMaxChan := ch
          start := vs.result.boundary, count := 0
          affected := Tri.build (fun c => vs.inUse.get c && decide (p.engine.levels.rvcBand < deviation u means c))
          flags := ⟨false, vs.anyOverRange, vs.result.freeRunning⟩ }
        folds := { p.folds with rvc := { p.folds.rvc with startDistance := p.folds.rvc.sinceEnd } } } := by
  subst hmeans
  obtain ⟨ch, hpick, hch, hmax⟩ := h.pickBest_none ⟨x, huse⟩ (Tri.build (windowMean p.profile.inForce.rvcWindow.toNat p.rvc.window))
  refine ⟨ch, hch, hmax, ?_⟩
  have hany := (h.any_beyond_iff _ _).mpr ⟨x, huse, hbeyond⟩
  rw [Part.rvcSteady, if_pos hany, Part.rvcBegin, hpick, h.beyond_eq]
  rfl

end Carried

/-! ## The end of an RVC (R63, R66, R68, R70, R71) -/

theorem Rvc.some_endFrame {r : Rvc} (h : r.window ≠ []) : some r.endFrame = r.window.head?.map WindowEntry.start := by
  obtain ⟨e, w, hw⟩ := List.exists_cons_of_ne_nil h
  rw [Rvc.endFrame, hw]
  rfl

/-- ΔUss is the settled change of a channel in use, and no other is larger. -/
theorem settledChange_greatest {inUse : ChanSet} (huse : ∃ c, inUse.get c = true) (width : Nat) (r : Rvc) :
    ∃ x, inUse.get x = true ∧ settledChange inUse width r = absDiff (windowMean width r.window x) (r.preMean.get x) ∧
      ∀ c, inUse.get c = true → absDiff (windowMean width r.window c) (r.preMean.get c) ≤ settledChange inUse width r := by
  obtain ⟨hmem, hmax⟩ := List.max?_eq_some_iff.mp (List.max?_cons' : _ = some (settledChange inUse width r))
  have hle (c : Chan) (hc : inUse.get c = true) :
      absDiff (windowMean width r.window c) (r.preMean.get c) ≤ settledChange inUse width r := by
    refine hmax _ (List.mem_cons_of_mem 0 (List.mem_map.mpr ⟨c, c.mem_list, ?_⟩))
    rw [if_pos hc]
  by_cases h0 : settledChange inUse width r = 0
  · obtain ⟨x, hx⟩ := huse
    exact ⟨x, hx, h0.trans (Nat.eq_zero_of_le_zero (h0 ▸ hle x hx)).symm, hle⟩
  · obtain ⟨x, -, heq⟩ := List.mem_map.mp ((List.mem_cons.mp hmem).resolve_left h0)
    split at heq
    case isTrue hx => exact ⟨x, hx, heq.symm, hle⟩
    case isFalse => exact absurd heq.symm h0

@[simp] theorem Folds.set_get (f : Folds) (t : FoldType) : f.set t (f.get t) = f := by cases t <;> rfl

theorem Fold.burst_getD_eq_self {f : Fold} {b n : Nat} (h : f.burst = some b) : { f with burst := some (f.burst.getD n) } = f := by
  rw [h, Option.getD_some, ← h]

/-- An OPEN fold folds the event, and the first folded event draws the burst number (R69, R70, R71). -/
theorem Part.foldDecision_of_open {p : Part} {t : FoldType} (distance : Option Nat) (h : (p.folds.get t).isOpen = true) :
    p.foldDecision t distance = (true, { p with
      classifier := if (p.folds.get t).burst = none
        then { p.classifier with nextEvent := nextNumber p.classifier.nextEvent } else p.classifier
      folds := p.folds.set t { p.folds.get t with burst := some ((p.folds.get t).burst.getD p.classifier.nextEvent) } }) := by
  obtain hb | ⟨b, hb⟩ := Option.eq_none_or_eq_some (p.folds.get t).burst
  · simp [Part.foldDecision, h, hb, Part.drawNumber, Part.setFold]
  · rw [Fold.burst_getD_eq_self hb, Folds.set_get]
    simp [Part.foldDecision, h, hb]

/-- A CLOSED fold counts the run, and the event is recorded (R69, R70). -/
theorem Part.foldDecision_of_closed {p : Part} {t : FoldType} (distance : Option Nat) (h : (p.folds.get t).isOpen = false) :
    p.foldDecision t distance = (false, p.setFold t
      ((p.folds.get t).countRun distance p.profile.inForce.burstSpacing.toNat p.profile.inForce.burstRun.toNat)) := by
  simp [Part.foldDecision, h]

/-- The run at an event `distance` half-cycles from the last end, `spacing` being Q (R69). -/
def runAt (f : Fold) (distance : Option Nat) (spacing : Nat) : Nat :=
  match distance with
  | some d => if d ≤ spacing then f.runCount + 1 else 1
  | none => 1

theorem Fold.countRun_of_closed {f : Fold} {distance : Option Nat} {spacing b : Nat} {opens : Bool} (h : f.isOpen = false)
    (hopens : opens = true ↔ b ≤ runAt f distance spacing) :
    f.countRun distance spacing b = { f with
      runCount := runAt f distance spacing, isOpen := opens
      burst := if opens then none else f.burst, summary := if opens then emptySummary else f.summary } := by
  have hrun : (if isNear spacing distance then f.runCount + 1 else 1) = runAt f distance spacing := by
    cases distance with
    | none => rfl
    | some d => simp only [isNear, runAt, decide_eq_true_eq]
  rw [Fold.countRun, hrun]
  cases opens with
  | true => rw [if_pos (hopens.mp rfl)]; rfl
  | false =>
    rw [if_neg (fun hle => nomatch hopens.mpr hle), ← h]
    simp [h]

/-- An RVC ending in an OPEN fold is merged into it, and the monitor is STEADY with its windows kept (R63, R68, R70, R71). -/
theorem Part.rvcEnd_of_open {p : Part} (vs : ValueSet) (h : p.folds.rvc.isOpen = true) :
    p.rvcEnd vs = { p with
      rvc := { resetRvc with mode := .steady, window := p.rvc.window }
      classifier := if p.folds.rvc.burst = none
        then { p.classifier with nextEvent := nextNumber p.classifier.nextEvent } else p.classifier
      folds := { p.folds with rvc := { p.folds.rvc with
        burst := some (p.folds.rvc.burst.getD p.classifier.nextEvent), sinceEnd := some p.profile.inForce.rvcWindow.toNat
        startDistance := none
        summary := p.folds.rvc.summary.merge .rvc (rvcEnding p.rvc p.profile.inForce.rvcWindow.toNat) } } } := by
  simp only [Part.rvcEnd]
  rw [Part.foldDecision_of_open (t := .rvc) _ h]
  rfl

/-- An RVC ending in a CLOSED fold counts the run and is recorded under a drawn number (R63, R66, R68, R70). -/
theorem Part.rvcEnd_of_closed {p : Part} {opens : Bool} {run : Nat} (vs : ValueSet) (h : p.folds.rvc.isOpen = false)
    (hrun : run = runAt p.folds.rvc p.folds.rvc.startDistance p.profile.inForce.burstSpacing.toNat)
    (hopens : opens = true ↔ p.profile.inForce.burstRun.toNat ≤ run) :
    p.rvcEnd vs = Part.handRecord { p with
        rvc := { resetRvc with mode := .steady, window := p.rvc.window }
        classifier := { p.classifier with nextEvent := nextNumber p.classifier.nextEvent }
        folds := { p.folds with rvc := { p.folds.rvc with
          runCount := run, isOpen := opens, sinceEnd := some p.profile.inForce.rvcWindow.toNat, startDistance := none
          burst := if opens then none else p.folds.rvc.burst
          summary := if opens then emptySummary else p.folds.rvc.summary } } }
      (p.buildRec .recorder vs.result.boundary
        (.event (rvcPayload p.rvc vs.inUse p.profile.inForce.rvcWindow.toNat p.classifier.nextEvent))) := by
  subst hrun
  simp only [Part.rvcEnd]
  rw [Part.foldDecision_of_closed (t := .rvc) _ h]
  simp only [Folds.get, Fold.countRun_of_closed h hopens]
  rfl

/-! ## The monitor at a value set, case by case (R59) -/

/-- The monitor in STEADY_WAIT with its windows emptied, a candidate's start distance NONE (R59, R64, R70). -/
theorem Part.rvcRestart_eq (p : Part) :
    p.rvcRestart = { p with
      rvc := resetRvc
      folds := if p.rvc.mode = .candidate then { p.folds with rvc := { p.folds.rvc with startDistance := none } } else p.folds } := by
  rw [Part.rvcRestart, Part.forgetCandidate]
  split <;> rfl

theorem Part.rvcHandle_of_event {p : Part} (vs : ValueSet) {o : Outcome}
    (h : o.openedDipSwell = true ∨ o.openDipSwell = true ∨ o.endedDipSwell = true) : p.rvcHandle vs o = p.rvcRestart := by
  refine if_pos ?_
  rwa [Bool.or_eq_true, Bool.or_eq_true, or_assoc]

section Calm

variable (p : Part) {vs : ValueSet} {o : Outcome} (hopened : o.openedDipSwell = false) (hopen : o.openDipSwell = false)
  (hended : o.endedDipSwell = false)
include hopened hopen hended

theorem Part.rvcHandle_of_missing (h : vs.someMissing = true) :
    p.rvcHandle vs o = if p.rvc.mode = .candidate then { p with rvc := p.rvc.passOver vs.result.freeRunning } else p := by
  simp [Part.rvcHandle, hopened, hopen, hended, h]

theorem Part.rvcHandle_of_carried {u : Chan → Nat} (h : vs.Carries u) :
    (p.rvc.mode = .steadyWait → p.rvcHandle vs o = p.rvcWait vs) ∧ (p.rvc.mode = .steady → p.rvcHandle vs o = p.rvcSteady vs) ∧
      (p.rvc.mode = .candidate → p.rvcHandle vs o = p.rvcFollow vs) := by
  refine ⟨?_, ?_, ?_⟩ <;> intro hmode <;> simp [Part.rvcHandle, hopened, hopen, hended, h.someMissing, hmode]

end Calm

/-- The end test of R63 after a value set in CANDIDATE. -/
theorem Part.rvcFollow_eq {p : Part} {vs : ValueSet} {r : Rvc} {steady : Bool}
    (hr : p.rvc.follow vs p.profile.inForce.rvcWindow.toNat p.engine.levels.rvcBand = r)
    (hsteady : steady = allSteady vs.inUse p.profile.inForce.rvcWindow.toNat p.engine.levels.rvcBand r.window) :
    p.rvcFollow vs = if steady then Part.rvcEnd { p with rvc := r } vs else { p with rvc := r } := by
  subst hr hsteady
  rfl

/-- Settles O60, by the classifier's outcome, the values and the monitor's state. -/
theorem theRvcMonitorFollowsTheValues : Obligations.TheRvcMonitorFollowsTheValues := by
  unfold Obligations.TheRvcMonitorFollowsTheValues
  rintro p vs o w band rfl - rfl
  refine ⟨fun hevent => ?event, fun hopened hopen hended => ⟨fun hmissing => ?missing, ?carried⟩⟩
  case event => rw [Part.rvcHandle_of_event vs hevent, Part.rvcRestart_eq]
  case missing =>
    rw [Part.rvcHandle_of_missing p hopened hopen hended (vs.someMissing_iff.mpr hmissing)]
    rfl
  case carried =>
    intro huse hvalue u mean slid steady ranged hu hmean hslid hsteady hranged
    have h : vs.Carries u := ⟨hvalue, hu⟩
    obtain ⟨hwait, hsteadied, hfollow⟩ := Part.rvcHandle_of_carried p hopened hopen hended h
    obtain rfl : mean = windowMean p.profile.inForce.rvcWindow.toNat := funext fun x => funext (hmean x)
    obtain rfl : ranged = vs.anyOverRange := Bool.eq_iff_iff.mpr (hranged.trans vs.anyOverRange_iff.symm)
    rw [← h.entryOf_eq, ← slideIn_eq] at hslid
    have hallSteady : steady = allSteady vs.inUse p.profile.inForce.rvcWindow.toNat p.engine.levels.rvcBand slid :=
      Bool.eq_iff_iff.mpr (hsteady.trans (allSteady_iff huse _ _ _).symm)
    refine ⟨fun hmode => ?wait, fun hmode dev hdev => ?steady, fun hmode dev hdev => ?candidate⟩
    case wait =>
      rw [hwait hmode, hallSteady, hslid]
      rfl
    case steady =>
      rw [hsteadied hmode, hslid]
      obtain rfl : dev = deviation u (Tri.build (windowMean p.profile.inForce.rvcWindow.toNat p.rvc.window)) :=
        funext fun c => (hdev c).trans (by rw [deviation, Tri.get_build])
      exact ⟨h.rvcSteady_within, fun x hx hbeyond => h.rvcSteady_beyond rfl hx hbeyond⟩
    case candidate =>
      obtain rfl : dev = deviation u p.rvc.preMean := funext hdev
      obtain ⟨m, ch, hpick, hbest⟩ := h.pickBest_some p.rvc.preMean p.rvc.uMax p.rvc.uMaxChan
      refine ⟨m, ch, hbest, fun r hr => ?_⟩
      have hfollowed : p.rvc.follow vs p.profile.inForce.rvcWindow.toNat p.engine.levels.rvcBand = r := by
        rw [h.follow_eq _ hpick, ← hslid, hr]
      obtain ⟨hwindow, huMax, huMaxChan, hpre⟩ : slid = r.window ∧ m = r.uMax ∧ ch = r.uMaxChan ∧ p.rvc.preMean = r.preMean := by
        rw [hr]
        exact ⟨rfl, rfl, rfl, rfl⟩
      have hfilled : r.window ≠ [] := hwindow ▸ hslid ▸ slideIn_ne_nil _ _ _
      rw [hfollow hmode, Part.rvcFollow_eq hfollowed (hwindow ▸ hallSteady)]
      refine ⟨fun hnot => by rw [hnot]; rfl, ?ends⟩
      rintro hends f number run opens rfl rfl hrun hopens
      rw [hends, if_pos rfl, hwindow, ← Rvc.some_endFrame hfilled, huMax, huMaxChan, hpre]
      refine ⟨fun hfold => Part.rvcEnd_of_open (p := { p with rvc := r }) vs hfold, fun hfold => ?recorded⟩
      obtain ⟨x, hx, hchange, hmax⟩ := settledChange_greatest huse p.profile.inForce.rvcWindow.toNat r
      exact ⟨_, x, hx, hchange, hmax, Part.rvcEnd_of_closed (p := { p with rvc := r }) vs hfold hrun hopens⟩

/-! ## A candidate's limit and a fold's quiet period (R64, R72) -/

theorem exec_candidateTimeout {s : State} (h : s.alive = true) :
    exec .candidateTimeout s = .next (s.leaves s.entered.settleCandidate) :=
  congrArg _ (State.runDue_of_alive Part.settleCandidate h)

theorem exec_foldQuietClose {s : State} (t : FoldType) (h : s.alive = true) :
    exec (.foldQuietClose t) s = .next (s.leaves (s.entered.settleFold t)) :=
  congrArg _ (State.runDue_of_alive (fun p => p.settleFold t) h)

theorem Part.candidateDue_iff (p : Part) :
    p.candidateDue = true ↔ p.rvc.mode = .candidate ∧ 6000 ≤ p.rvc.count ∧ p.failing = false := by
  simp only [Part.candidateDue, Bool.and_eq_true, decide_eq_true_eq, Bool.not_eq_true', and_assoc]
  rfl

theorem Part.settleCandidate_of_due {p : Part} (hmode : p.rvc.mode = .candidate) (hcount : 6000 ≤ p.rvc.count)
    (hfailing : p.failing = false) :
    p.settleCandidate =
      { p with rvc := resetRvc, folds := { p.folds with rvc := { p.folds.rvc with startDistance := none } } } := by
  rw [Part.settleCandidate, if_pos (p.candidateDue_iff.mpr ⟨hmode, hcount, hfailing⟩), Part.rvcRestart_eq, if_pos hmode]

theorem Part.settleCandidate_of_undue {p : Part} (h : p.rvc.mode ≠ .candidate ∨ p.rvc.count < 6000) : p.settleCandidate = p := by
  refine if_neg fun hdue => ?_
  obtain ⟨hmode, hcount, -⟩ := p.candidateDue_iff.mp hdue
  exact h.elim (fun hne => hne hmode) (fun hlt => Nat.not_lt.mpr hcount hlt)

/-- A BURST record handed, or none, leaves the fold machines alone (R75). -/
@[simp] theorem Part.handBurst_folds (p : Part) (t : FoldType) (closure : FoldClosure) (frame : Nat) :
    (p.handBurst t closure frame).folds = p.folds := by
  rw [Part.handBurst]
  split
  · rw [Part.handRecord_frame]
  · rfl

theorem Part.handBurst_of_open {p : Part} {t : FoldType} (closure : FoldClosure) (frame : Nat) (h : (p.folds.get t).isOpen = true) :
    p.handBurst t closure frame =
      if 1 ≤ (p.folds.get t).summary.count then
        p.handRecord (p.buildRec .recorder frame (.burst ⟨t, (p.folds.get t).burst.getD 0, (p.folds.get t).summary, closure⟩))
      else p := by
  simp only [Part.handBurst, h, Bool.true_and, decide_eq_true_eq]

theorem Part.quietClose_eq (p : Part) (t : FoldType) :
    p.quietClose t = { p.handBurst t .quiet p.nowFrame with folds := p.folds.set t (p.folds.get t).closed } := by
  simp only [Part.quietClose, Part.setFold, Part.handBurst_folds]

/-- An OPEN fold's quiet period is over when its count has reached P and no event of the type is open (R72). -/
theorem Part.quietDue_iff {p : Part} {t : FoldType} {n : Nat} (hfailing : p.failing = false) (hopen : (p.folds.get t).isOpen = true)
    (hsince : (p.folds.get t).sinceEnd = some n) :
    p.quietDue t = true ↔ p.typeOpen t = false ∧ p.profile.inForce.burstQuiet.toNat ≤ n := by
  simp [Part.quietDue, hfailing, hopen, hsince]

/-- Settles O37: what the two commands run is `Part.settleCandidate` and `Part.settleFold`, each when it is due. -/
theorem candidatesAndFoldsRunOut : Obligations.CandidatesAndFoldsRunOut := by
  unfold Obligations.CandidatesAndFoldsRunOut
  rintro s p halive rfl hfailing
  refine ⟨fun hmode hcount => ?limit, fun hundue => ?undue, ?quiet⟩
  case limit =>
    rw [exec_candidateTimeout halive, Part.settleCandidate_of_due hmode hcount hfailing]
    rfl
  case undue => rw [exec_candidateTimeout halive, Part.settleCandidate_of_undue hundue]
  case quiet =>
    rintro t f n rfl hopen hsince hnone
    have hclosed : s.entered.typeOpen t = false := by
      cases t with
      | dip | swell => exact Option.isSome_eq_false_iff.mpr (Option.isNone_iff_eq_none.mpr hnone)
      | rvc => exact decide_eq_false hnone
    have hdue := Part.quietDue_iff hfailing hopen hsince
    rw [exec_foldQuietClose t halive, Part.settleFold]
    refine ⟨fun hlt => ?early, ?passed⟩
    case early => rw [if_neg fun h => Nat.not_lt.mpr (hdue.mp h).2 hlt]
    case passed =>
      rintro hle q rfl
      rw [if_pos (hdue.mpr ⟨hclosed, hle⟩), Part.quietClose_eq, Part.handBurst_of_open _ _ hopen]
      rfl

end Sys2Proof.Machine

namespace Sys2Proof.Machine

/-! ## What an interval close reads (R86, R123) -/

/-- What the open interval's record, its admission and the grid's next interval are made from (R79, R83 to R86, R123). -/
structure CloseView where
  aggregator : Aggregator
  profile : ProfileUnit
  journal : Journal
  receiver : Receiver
  failing : Bool
  bulk : List Rec
  withheld : Nat

/-- What an interval close reads of the part. -/
def Part.closeView (p : Part) : CloseView :=
  ⟨p.aggregator, p.profile, p.journal, p.receiver, p.failing, p.commit.bulk, p.commit.withheld⟩

@[simp] theorem Part.handRecord_closeView (p : Part) (r : Rec) : (p.handRecord r).closeView = p.closeView := by
  obtain ⟨-, h⟩ | ⟨-, h⟩ := p.handRecord_cases r <;> rw [h] <;> rfl

theorem Part.foldDecision_closeView (p : Part) (t : FoldType) (distance : Option Nat) :
    (p.foldDecision t distance).2.closeView = p.closeView := by
  simp only [Part.foldDecision]
  split
  case isTrue => split <;> rfl
  case isFalse => rfl

theorem Part.endFilling_closeView (p : Part) (serial hold : Nat) (truncated : Bool) :
    (p.endFilling serial hold truncated).closeView = p.closeView := by
  simp only [Part.endFilling]
  split
  · rfl
  · exact Part.handRecord_closeView _ _

theorem Part.takeSlot_closeView {p q : Part} {trigger : Trigger} {event : Option Nat} {origin : Origin} {frame : Nat} {a : Nat × Nat}
    (h : p.takeSlot trigger event origin frame = some (a, q)) : q.closeView = p.closeView := by
  simp only [Part.takeSlot] at h
  split at h
  · cases h
  · split at h <;> cases h
    · exact Part.endFilling_closeView _ _ _ _
    · rfl

theorem Part.requestCapture_closeView (p : Part) (trigger : Trigger) (number : Nat) (linked : Option Nat) (frame : Nat) :
    (p.requestCapture trigger number linked frame).2.closeView = p.closeView := by
  simp only [Part.requestCapture, Part.takeOrRefuse]
  split
  · rfl
  · split
    case h_1 htaken => exact Part.takeSlot_closeView htaken
    case h_2 => rfl

theorem Part.lookup_closeView (p : Part) (t : EventType) (chans : ChanSet) (extreme halfCycles stop : Nat) :
    (p.lookup t chans extreme halfCycles stop).2.closeView = p.closeView := by
  simp only [Part.lookup]
  split
  · split
    · split <;> rfl
    · rfl
  · rfl

theorem Part.foldEnded_closeView (p : Part) (t : EventType) (e : OpenEvent) (c : Close) :
    (p.foldEnded t e c).closeView = p.closeView := by
  cases t <;> rfl

/-! ## The classifier and the RVC monitor leave it alone -/

theorem Part.closeEvent_closeView (p : Part) (t : EventType) (e : OpenEvent) (c : Close) :
    (p.closeEvent t e c).closeView = p.closeView := by
  have hended := (Part.foldEnded_closeView _ t e c).trans (p.lookup_closeView t e.chans e.extreme c.halfCycles c.lookupEnd)
  simp only [Part.closeEvent]
  split
  · exact hended
  · exact (Part.handRecord_closeView _ _).trans hended

theorem Part.closeStep_closeView (p : Part) (vs : ValueSet) (t : EventType) : (p.closeStep vs t).closeView = p.closeView := by
  simp only [Part.closeStep]
  split
  · rfl
  · split
    · rfl
    · exact p.closeEvent_closeView _ _ _

theorem Part.linkDip_closeView (p : Part) (t : EventType) (number : Nat) : (p.linkDip t number).closeView = p.closeView := by
  cases t <;> rfl

theorem Part.openRecorded_closeView (p : Part) (t : EventType) (vs : ValueSet) : (p.openRecorded t vs).closeView = p.closeView :=
  (Part.requestCapture_closeView _ _ _ _ _).trans (Part.linkDip_closeView p.drawNumber.2 t p.drawNumber.1)

theorem Part.openEvent_closeView (p : Part) (t : EventType) (vs : ValueSet) : (p.openEvent t vs).closeView = p.closeView := by
  simp only [Part.openEvent]
  split
  · exact p.openRecorded_closeView t vs
  · split
    · exact p.foldDecision_closeView _ _
    · exact (Part.openRecorded_closeView _ t vs).trans (p.foldDecision_closeView _ _)

theorem Part.openStep_closeView (p : Part) (vs : ValueSet) (t : EventType) : (p.openStep vs t).closeView = p.closeView := by
  simp only [Part.openStep]
  split
  · rfl
  · split
    · exact p.openEvent_closeView t vs
    · rfl

theorem Part.classify_closeView (p : Part) (vs : ValueSet) : (p.classify vs).2.closeView = p.closeView := by
  simp only [Part.classify, Part.openSteps, Part.closeSteps, Part.openStep_closeView, Part.closeStep_closeView]
  rfl

/-- The monitor's state, the next event number and the folds replaced: what the RVC monitor changes besides the queues. -/
def Part.monitored (p : Part) (r : Rvc) (next : Nat) (folds : Folds) : Part :=
  { p with rvc := r, classifier := { p.classifier with nextEvent := next }, folds := folds }

theorem Part.rvcEnd_cases (p : Part) (vs : ValueSet) :
    ∃ r next folds, p.rvcEnd vs = p.monitored r next folds ∨ ∃ x, p.rvcEnd vs = (p.monitored r next folds).handRecord x := by
  cases hfold : p.folds.rvc.isOpen with
  | true =>
    rw [Part.rvcEnd_of_open vs hfold]
    split <;> exact ⟨_, _, _, .inl rfl⟩
  | false => exact ⟨_, _, _, .inr ⟨_, Part.rvcEnd_of_closed vs hfold rfl decide_eq_true_iff⟩⟩

/-- The monitor at a value set: its own state and the folds, and at an RVC's end the event number and a record handed on (R59 to R66). -/
theorem Part.rvcHandle_cases (p : Part) (vs : ValueSet) (o : Outcome) :
    ∃ r next folds, p.rvcHandle vs o = p.monitored r next folds ∨
      ∃ x, p.rvcHandle vs o = (p.monitored r next folds).handRecord x := by
  simp only [Part.rvcHandle]
  split
  · exact ⟨_, _, _, .inl p.rvcRestart_eq⟩
  · split
    · split <;> exact ⟨_, _, _, .inl rfl⟩
    · split
      case h_1 => exact ⟨_, _, _, .inl rfl⟩
      case h_2 =>
        simp only [Part.rvcSteady]
        split <;> exact ⟨_, _, _, .inl rfl⟩
      case h_3 =>
        simp only [Part.rvcFollow]
        split
        · exact Part.rvcEnd_cases { p with rvc := p.rvc.follow vs p.profile.inForce.rvcWindow.toNat p.engine.levels.rvcBand } vs
        · exact ⟨_, _, _, .inl rfl⟩

theorem Part.rvcHandle_closeView (p : Part) (vs : ValueSet) (o : Outcome) : (p.rvcHandle vs o).closeView = p.closeView := by
  obtain ⟨r, next, folds, h | ⟨x, h⟩⟩ := p.rvcHandle_cases vs o <;> rw [h]
  · rfl
  · exact Part.handRecord_closeView _ _

/-- The monitor neither opens nor closes an event of the classifier. -/
theorem Part.rvcHandle_anyOpen (p : Part) (vs : ValueSet) (o : Outcome) :
    (p.rvcHandle vs o).classifier.anyOpen = p.classifier.anyOpen := by
  obtain ⟨r, next, folds, h | ⟨x, h⟩⟩ := p.rvcHandle_cases vs o <;> rw [h]
  · rfl
  · rw [Part.handRecord_frame]
    rfl

/-- The part after the classifier and the RVC monitor (R48). -/
def Part.judged (p : Part) (vs : ValueSet) : Part := (p.classify vs).2.rvcHandle vs (p.classify vs).1

theorem Part.judged_closeView (p : Part) (vs : ValueSet) : (p.judged vs).closeView = p.closeView :=
  (Part.rvcHandle_closeView _ vs _).trans (p.classify_closeView vs)

@[simp] theorem Part.judged_aggregator (p : Part) (vs : ValueSet) : (p.judged vs).aggregator = p.aggregator :=
  congrArg CloseView.aggregator (p.judged_closeView vs)

@[simp] theorem Part.judged_profile (p : Part) (vs : ValueSet) : (p.judged vs).profile = p.profile :=
  congrArg CloseView.profile (p.judged_closeView vs)

@[simp] theorem Part.judged_bulk (p : Part) (vs : ValueSet) : (p.judged vs).commit.bulk = p.commit.bulk :=
  congrArg CloseView.bulk (p.judged_closeView vs)

@[simp] theorem Part.judged_withheld (p : Part) (vs : ValueSet) : (p.judged vs).commit.withheld = p.commit.withheld :=
  congrArg CloseView.withheld (p.judged_closeView vs)

theorem Classifier.absorb_anyOpen (c : Classifier) (l : Levels) (vs : ValueSet) : (c.absorb l vs).anyOpen = c.anyOpen := by
  simp only [Classifier.anyOpen, Classifier.absorb, Option.isSome_map]

/-- The half-cycle is *flagged* for an event open before or after it (R48, R81). -/
theorem Part.classify_flagged (p : Part) (vs : ValueSet) :
    (p.classify vs).1.flagged = (p.classifier.anyOpen || (p.judged vs).classifier.anyOpen) := by
  rw [Part.judged, Part.rvcHandle_anyOpen, ← p.classifier.absorb_anyOpen p.engine.levels vs]
  rfl

/-! ## The close of an interval (R79, R86, R87, R96, R123) -/

/-- The open interval's record at a close (R86). -/
def Part.intervalRec (p : Part) (frame : Nat) : Rec :=
  p.buildRec .recorder frame (.interval (p.aggregator.record p.profile.inForce p.commit.withheld))

theorem Part.closeInterval_eq (p : Part) (frame : Nat) :
    p.closeInterval frame = ((p.handInterval (p.intervalRec frame)).ageTable frame).evaluateTail := rfl

theorem Part.handInterval_admitted {p : Part} (r : Rec) (hroom : p.commit.bulk.length < 8) (hblocked : p.journal.state ≠ .blocked)
    (hfaulted : p.journal.state ≠ .faulted) :
    (p.handInterval r).commit = { p.commit with bulk := p.commit.bulk ++ [r], withheld := 0 } := by
  rw [Part.handInterval, if_pos ⟨hroom, decide_eq_false hblocked, decide_eq_false hfaulted⟩]

theorem Part.handInterval_dropped {p : Part} (r : Rec)
    (h : 8 ≤ p.commit.bulk.length ∨ p.journal.state = .blocked ∨ p.journal.state = .faulted) :
    (p.handInterval r).commit = { p.commit with withheld := min 4294967295 (p.commit.withheld + 1) } := by
  rw [Part.handInterval, if_neg]
  · rfl
  · rintro ⟨hroom, hblocked, hfaulted⟩
    obtain hfull | hstate | hstate := h
    · exact Nat.not_lt.mpr hfull hroom
    · exact of_decide_eq_false hblocked hstate
    · exact of_decide_eq_false hfaulted hstate

theorem Part.handInterval_recurrence (p : Part) (r : Rec) : (p.handInterval r).recurrence = p.recurrence := by
  rw [Part.handInterval_frame]

theorem Part.handInterval_profile (p : Part) (r : Rec) : (p.handInterval r).profile = p.profile := by
  rw [Part.handInterval_frame]

/-- An evaluation changes the journal's state and raises notices (R140, R143). -/
theorem Part.evaluateTail_frame (p : Part) :
    p.evaluateTail = { p with journal := p.evaluateTail.journal, ports := p.evaluateTail.ports } := by
  simp only [Part.evaluateTail]
  split
  · split
    · rfl
    · split <;> rfl
  · rfl

@[simp] theorem Part.closeGrid_commit (p : Part) (b : Nat) : (p.closeGrid b).commit = (p.handInterval (p.intervalRec b)).commit := by
  rw [Part.closeGrid, Part.closeInterval_eq, Part.evaluateTail_frame]
  rfl

@[simp] theorem Part.closeGrid_classifier (p : Part) (b : Nat) : (p.closeGrid b).classifier = p.classifier := by
  rw [Part.closeGrid, Part.closeInterval_eq, Part.evaluateTail_frame, Part.handInterval_frame]
  rfl

/-! ## A value set at the aggregator (R79 to R82) -/

/-- The interval a half-cycle with boundary `b` is added to (R79, R80). -/
def Part.intervalAt (p : Part) (b : Nat) : Aggregator :=
  if b < p.aggregator.stop then p.aggregator else gridInterval p.profile.inForce b p.aggregator.lastMissing

theorem Part.measure_of_lt {p : Part} {vs : ValueSet} (first : Bool) (h : vs.result.boundary < p.aggregator.stop) :
    p.measure vs first = (p.judged vs).assign vs (p.classify vs).1 := by
  have hover : p.aggregator.isOver vs.result.boundary = false := decide_eq_false (Nat.not_le.mpr h)
  simp only [Part.measure, hover, Bool.false_and, Bool.false_eq_true, if_false]
  rfl

theorem Part.measure_true_of_le {p : Part} {vs : ValueSet} (h : p.aggregator.stop ≤ vs.result.boundary) :
    p.measure vs true =
      ((p.closeGrid vs.result.boundary).judged vs).assign vs ((p.closeGrid vs.result.boundary).classify vs).1 := by
  have hover : p.aggregator.isOver vs.result.boundary = true := decide_eq_true h
  simp [Part.measure, hover, Part.judged]

theorem Part.measure_false_of_le {p : Part} {vs : ValueSet} (h : p.aggregator.stop ≤ vs.result.boundary) :
    p.measure vs false = ((p.judged vs).closeGrid vs.result.boundary).assign vs (p.classify vs).1 := by
  have hover : p.aggregator.isOver vs.result.boundary = true := decide_eq_true h
  simp [Part.measure, hover, Part.judged]

/-- Whichever of the two orders is taken, the half-cycle is added to the interval of its own position (R79, R81). -/
theorem Part.measure_aggregator (p : Part) (vs : ValueSet) (first : Bool) :
    (p.measure vs first).aggregator = (p.intervalAt vs.result.boundary).assign vs
      (p.classifier.anyOpen || (p.measure vs first).classifier.anyOpen) := by
  by_cases h : vs.result.boundary < p.aggregator.stop
  · rw [Part.measure_of_lt first h, Part.intervalAt, if_pos h]
    simp only [Part.assign, Part.classify_flagged, Part.judged_aggregator]
  · rw [Part.intervalAt, if_neg h]
    cases first with
    | true =>
      rw [Part.measure_true_of_le (Nat.not_lt.mp h)]
      simp only [Part.assign, Part.classify_flagged, Part.closeGrid_classifier, Part.judged_aggregator]
      rfl
    | false =>
      rw [Part.measure_false_of_le (Nat.not_lt.mp h)]
      simp only [Part.assign, Part.classify_flagged, Part.closeGrid_classifier]
      simp only [Part.closeGrid, Part.judged_aggregator, Part.judged_profile]

/-- Below the open interval's end no record is handed to BULK (R79, R123). -/
theorem Part.measure_commit_of_lt {p : Part} {vs : ValueSet} (first : Bool) (h : vs.result.boundary < p.aggregator.stop) :
    (p.measure vs first).commit.bulk = p.commit.bulk ∧ (p.measure vs first).commit.withheld = p.commit.withheld := by
  rw [Part.measure_of_lt first h]
  exact ⟨p.judged_bulk vs, p.judged_withheld vs⟩

theorem Part.intervalRec_congr {p q : Part} (h : q.closeView = p.closeView) (b : Nat) : q.intervalRec b = p.intervalRec b := by
  simp only [Part.closeView, CloseView.mk.injEq] at h
  obtain ⟨haggregator, hprofile, hjournal, hreceiver, hfailing, -, hwithheld⟩ := h
  simp only [Part.intervalRec, Part.buildRec, Part.headerFlags, Part.secondsAt, haggregator, hprofile, hjournal, hreceiver, hfailing,
    hwithheld]

/-- At or past the open interval's end its record is handed to BULK by the part as it was, or by the part that the classifier and the RVC
monitor leave (R79, R86; log entry 7). -/
theorem Part.measure_commit_of_le {p : Part} {vs : ValueSet} (first : Bool) (h : p.aggregator.stop ≤ vs.result.boundary) :
    ∃ c : Part, c.closeView = p.closeView ∧
      (p.measure vs first).commit.bulk = (c.handInterval (p.intervalRec vs.result.boundary)).commit.bulk ∧
      (p.measure vs first).commit.withheld = (c.handInterval (p.intervalRec vs.result.boundary)).commit.withheld := by
  cases first with
  | true =>
    refine ⟨p, rfl, ?_⟩
    rw [Part.measure_true_of_le h, ← Part.closeGrid_commit]
    exact ⟨Part.judged_bulk _ vs, Part.judged_withheld _ vs⟩
  | false =>
    refine ⟨p.judged vs, p.judged_closeView vs, ?_⟩
    rw [Part.measure_false_of_le h, ← Part.intervalRec_congr (p.judged_closeView vs), ← Part.closeGrid_commit]
    exact ⟨rfl, rfl⟩

/-- The record of an interval that is over enters BULK, and the withheld count returns to 0 (R86, R123). -/
theorem Part.measure_admitted {p : Part} {vs : ValueSet} (first : Bool) (h : p.aggregator.stop ≤ vs.result.boundary)
    (hroom : p.commit.bulk.length < 8) (hblocked : p.journal.state ≠ .blocked) (hfaulted : p.journal.state ≠ .faulted) :
    (p.measure vs first).commit.withheld = 0 ∧
      (p.measure vs first).commit.bulk = p.commit.bulk ++ [p.intervalRec vs.result.boundary] := by
  obtain ⟨c, hview, hbulk, hwithheld⟩ := Part.measure_commit_of_le first h
  have hjournal : c.journal = p.journal := congrArg CloseView.journal hview
  have hqueue : c.commit.bulk = p.commit.bulk := congrArg CloseView.bulk hview
  rw [← hqueue] at hroom ⊢
  rw [← hjournal] at hblocked hfaulted
  rw [hbulk, hwithheld, Part.handInterval_admitted _ hroom hblocked hfaulted]
  exact ⟨rfl, rfl⟩

/-- The record of an interval that is over is dropped and counted (R86, R123). -/
theorem Part.measure_dropped {p : Part} {vs : ValueSet} (first : Bool) (h : p.aggregator.stop ≤ vs.result.boundary)
    (hfull : 8 ≤ p.commit.bulk.length ∨ p.journal.state = .blocked ∨ p.journal.state = .faulted) :
    (p.measure vs first).commit.bulk = p.commit.bulk ∧
      (p.measure vs first).commit.withheld = min 4294967295 (p.commit.withheld + 1) := by
  obtain ⟨c, hview, hbulk, hwithheld⟩ := Part.measure_commit_of_le first h
  have hjournal : c.journal = p.journal := congrArg CloseView.journal hview
  have hqueue : c.commit.bulk = p.commit.bulk := congrArg CloseView.bulk hview
  have hcount : c.commit.withheld = p.commit.withheld := congrArg CloseView.withheld hview
  rw [← hqueue, ← hjournal] at hfull
  rw [hbulk, hwithheld, Part.handInterval_dropped _ hfull, ← hqueue, ← hcount]
  exact ⟨rfl, rfl⟩

/-! ## A half-cycle added to an interval (R81) -/

theorem lowerOf_some (u : Nat) (low : Option Nat) : lowerOf (some u) low = some (min u (low.getD u)) := by
  cases low with
  | none => simp [lowerOf]
  | some l =>
    simp only [lowerOf, Option.getD_some]
    split <;> congr 1 <;> omega

theorem higherOf_some (u : Nat) (high : Option Nat) : higherOf (some u) high = some (max u (high.getD u)) := by
  cases high with
  | none => simp [higherOf]
  | some l =>
    simp only [higherOf, Option.getD_some]
    split <;> congr 1 <;> omega

section Entries

variable {vs : ValueSet} (h : ∀ c, (vs.entries.get c).isSome = vs.inUse.get c)
include h

/-- A channel without an entry keeps its sums and its extremes (R81). -/
theorem Aggregator.assign_get_of_none (a : Aggregator) (wasFlagged : Bool) {c : Chan} (hentry : vs.entries.get c = none) :
    (a.assign vs wasFlagged).sumS.get c = a.sumS.get c ∧ (a.assign vs wasFlagged).sumN.get c = a.sumN.get c ∧
      (a.assign vs wasFlagged).low.get c = a.low.get c ∧ (a.assign vs wasFlagged).high.get c = a.high.get c := by
  have huse : vs.inUse.get c = false := by rw [← h, hentry]; rfl
  simp [Aggregator.assign, ValueSet.sum, ValueSet.value, hentry, huse, lowerOf, higherOf]

/-- A channel with an entry adds its sum and the half-cycle's length, with *no-value* too, and a value moves the extremes (R81). -/
theorem Aggregator.assign_get_of_some (a : Aggregator) (wasFlagged : Bool) {c : Chan} {e : ChanValue} (hentry : vs.entries.get c = some e) :
    (a.assign vs wasFlagged).sumS.get c = a.sumS.get c + e.sum ∧
      (a.assign vs wasFlagged).sumN.get c = a.sumN.get c + vs.result.length ∧
      (e.u = none → (a.assign vs wasFlagged).low.get c = a.low.get c ∧ (a.assign vs wasFlagged).high.get c = a.high.get c) ∧
      ∀ u, e.u = some u → (a.assign vs wasFlagged).low.get c = some (min u ((a.low.get c).getD u)) ∧
        (a.assign vs wasFlagged).high.get c = some (max u ((a.high.get c).getD u)) := by
  have huse : vs.inUse.get c = true := by rw [← h, hentry]; rfl
  have hvalue : vs.value c = e.u := by rw [ValueSet.value, hentry, Option.bind_some]
  simp only [Aggregator.assign, Tri.get_build, hvalue]
  refine ⟨by rw [ValueSet.sum, hentry]; rfl, if_pos huse, fun hnone => ?_, fun u hu => ?_⟩
  · rw [hnone]
    exact ⟨rfl, rfl⟩
  · rw [hu]
    exact ⟨lowerOf_some u _, higherOf_some u _⟩

/-- A value set is *over-range* for the interval by a value's mark or a clipped sample on a channel in use (R81). -/
theorem ValueSet.overRange_or_clipped :
    (vs.anyOverRange || vs.inUse.any (fun c => decide (vs.clip c ≠ 0))) =
      Chan.list.any (fun c => (vs.entries.get c).any (fun e => e.overRange || decide (e.clip ≠ 0))) := by
  rw [Bool.eq_iff_iff, Bool.or_eq_true, ValueSet.anyOverRange, ChanSet.any_iff, ChanSet.any_iff, ← exists_or, List.any_eq_true]
  refine exists_congr fun c => ?_
  rw [← h c, ValueSet.clip]
  cases vs.entries.get c with
  | none => simp
  | some e => simp [c.mem_list]

theorem Aggregator.assign_eq (a : Aggregator) (before after : Bool) {q : Aggregator} (hq : q = a.assign vs (before || after)) :
    q = { a with
      halfCycles := a.halfCycles + 1
      sumS := q.sumS, sumN := q.sumN, low := q.low, high := q.high
      lockedH := if vs.result.locked then a.lockedH + 1 else a.lockedH
      lockedN := if vs.result.locked then a.lockedN + vs.result.length else a.lockedN
      flags := { a.flags with
        flagged := a.flags.flagged || before || after
        freeRunning := a.flags.freeRunning || vs.result.freeRunning
        overRange := a.flags.overRange ||
          Chan.list.any (fun c => (vs.entries.get c).any (fun e => e.overRange || decide (e.clip ≠ 0))) } } := by
  subst hq
  rw [← ValueSet.overRange_or_clipped h, ← Bool.or_assoc, Bool.or_assoc a.flags.flagged]
  rfl

end Entries

/-! ## The grid (R79, R80, R82) -/

/-- The interval opened at a boundary lies on the boundary's own grid position, *gap* when it begins at or below the last missing frame. -/
theorem gridInterval_eq (pr : Profile) (b : Nat) (lastMissing : Option Nat) {len k : Nat} (hlen : len = pr.intervalLen.toNat * 10240)
    (hk : k = b / len) :
    gridInterval pr b lastMissing = {
      index := k, start := k * len, stop := (k + 1) * len, halfCycles := 0, sumS := Tri.all 0, sumN := Tri.all 0
      low := Tri.all none, high := Tri.all none, lockedH := 0, lockedN := 0
      flags := ⟨false, lastMissing.any (fun m => decide (k * len ≤ m)), false, false, false⟩
      lastMissing := lastMissing } := by
  subst hk hlen
  cases lastMissing <;> rfl

/-! ## The ageing at a close (R96) -/

/-- An entry last seen more than `age` frames before the close is no longer in the table (R96). -/
theorem ite_agedOut (age close : Nat) (x : Option RecurEntry) :
    (if agedOut age close x then none else x) = x.bind (fun e => if e.lastSeen.frame + age < close then none else some e) := by
  cases x with
  | none => rfl
  | some e => simp only [agedOut, decide_eq_true_eq, Option.bind_some]

theorem any_agedOut (age close : Nat) (entries : List (Option RecurEntry)) :
    entries.any (agedOut age close) = entries.any (fun x => x.any (fun e => decide (e.lastSeen.frame + age < close))) := by
  refine congrArg entries.any (funext fun x => ?_)
  cases x <;> rfl

/-- Without an entry too old the pass keeps the table. -/
theorem map_agedOut_of_not_any {age close : Nat} {entries : List (Option RecurEntry)} (h : ¬ entries.any (agedOut age close) = true) :
    entries.map (fun x => if agedOut age close x then none else x) = entries := by
  refine (List.map_congr_left fun x hx => if_neg fun hold => h ?_).trans entries.map_id
  exact List.any_eq_true.mpr ⟨x, hx, hold⟩

/-- An ageing pass drops the entries too old at the close, and raises the revision when there are any (R96). -/
theorem Recurrence.ageAt_eq {r aged : Recurrence} {age close : Nat}
    (hentries : aged.entries = r.entries.map (fun x => x.bind (fun e => if e.lastSeen.frame + age < close then none else some e)))
    (hrevision : aged.revision =
      if r.entries.any (fun x => x.any (fun e => decide (e.lastSeen.frame + age < close))) then (r.revision + 1) % 4294967296
      else r.revision) :
    r.ageAt age close = aged := by
  simp only [← ite_agedOut] at hentries
  rw [← any_agedOut] at hrevision
  obtain ⟨entries, revision⟩ := aged
  dsimp only at hentries hrevision
  subst hentries hrevision
  by_cases h : r.entries.any (agedOut age close) = true
  · simp only [Recurrence.ageAt, if_pos h]
    rfl
  · simp only [Recurrence.ageAt, if_neg h, map_agedOut_of_not_any h]

theorem Part.ageTable_of_ageAt {p : Part} {aged : Recurrence} {close : Nat}
    (h : p.recurrence.ageAt (p.profile.inForce.recurAge.toNat * 36864000) close = aged) :
    p.ageTable close = { p with recurrence := aged } := by
  rw [← h]
  rfl

/-! ## The INTERVAL record (R83 to R86) -/

theorem Aggregator.block_eq_none {a : Aggregator} {pr : Profile} {c : Chan} (h : pr.inUse.get c = false ∨ a.low.get c = none) :
    a.block pr c = none := by
  cases hlow : a.low.get c with
  | none => simp only [Aggregator.block, hlow]
  | some low =>
    obtain huse | hnone := h
    · simp [Aggregator.block, hlow, huse]
    · cases hlow.symm.trans hnone

theorem Aggregator.block_eq_some {a : Aggregator} {pr : Profile} {c : Chan} {low high : Nat} (huse : pr.inUse.get c = true)
    (hlow : a.low.get c = some low) (hhigh : a.high.get c = some high) :
    a.block pr c = some ⟨rmsValue (a.sumS.get c) (a.sumN.get c) (pr.gain c), low, high⟩ := by
  simp [Aggregator.block, hlow, hhigh, huse]

/-- The exact root is the only one. -/
theorem eq_isqrt {m root : Nat} (hm : m < 2 ^ 64) (hlow : root * root ≤ m) (hhigh : m < (root + 1) * (root + 1)) : root = isqrt m := by
  obtain ⟨hroot, hnext⟩ := isqrt_exact hm
  have hle : root < isqrt m + 1 := Nat.mul_self_lt_mul_self_iff.mp (Nat.lt_of_le_of_lt hlow hnext)
  have hge : isqrt m < root + 1 := Nat.mul_self_lt_mul_self_iff.mp (Nat.lt_of_le_of_lt hroot hhigh)
  exact Nat.le_antisymm (Nat.le_of_lt_succ hle) (Nat.le_of_lt_succ hge)

/-- The mean square of samples of at most 2^15 in magnitude is within the range of `isqrt`. -/
theorem mean_lt_two_pow {sum count : Nat} (h : sum ≤ count * 2 ^ 30) : sum / count < 2 ^ 64 :=
  Nat.lt_of_le_of_lt (Nat.div_le_of_le_mul h) (by decide)

/-- The limit of 65,535 acted on an interval value (R83). -/
theorem Aggregator.limited_iff {a : Aggregator} (pr : Profile) (h : ∀ c, a.sumS.get c ≤ a.sumN.get c * 2 ^ 30) :
    a.limited pr = true ↔ ∃ c root, pr.inUse.get c = true ∧ a.low.get c ≠ none ∧ root * root ≤ a.sumS.get c / a.sumN.get c ∧
      a.sumS.get c / a.sumN.get c < (root + 1) * (root + 1) ∧ 65535 < (root * pr.gain c + 2048) / 4096 := by
  simp only [Aggregator.limited, ChanSet.any_iff, Bool.and_eq_true, rmsLimited_iff, Option.isSome_iff_ne_none]
  refine exists_congr fun c => ⟨?_, ?_⟩
  · rintro ⟨huse, hlow, hlimit⟩
    obtain ⟨hroot, hnext⟩ := isqrt_exact (mean_lt_two_pow (h c))
    exact ⟨_, huse, hlow, hroot, hnext, hlimit⟩
  · rintro ⟨root, huse, hlow, hroot, hnext, hlimit⟩
    rw [eq_isqrt (mean_lt_two_pow (h c)) hroot hnext] at hlimit
    exact ⟨huse, hlow, hlimit⟩

theorem frequency_pos {h : Nat} (n : Nat) (hpos : 1 ≤ h) : frequency h n = some ((10240000 * h + n) / (2 * n)) :=
  if_neg (by omega)

/-- The frequency of half-cycles of 64 to 128 frames lies in 40,000..80,000 mHz and is the nearest, an exact half rounding up (R84). -/
theorem frequency_bounds {h n f : Nat} (hpos : 1 ≤ h) (hshort : 64 * h ≤ n) (hlong : n ≤ 128 * h)
    (hf : f = (10240000 * h + n) / (2 * n)) :
    40000 ≤ f ∧ f ≤ 80000 ∧ 2 * n * f ≤ 10240000 * h + n ∧ 10240000 * h + n < 2 * n * (f + 1) := by
  have hn : 0 < 2 * n := by omega
  subst hf
  refine ⟨(Nat.le_div_iff_mul_le hn).mpr (by omega), Nat.le_of_lt_succ ((Nat.div_lt_iff_lt_mul hn).mpr (by omega)),
    Nat.mul_div_le _ _, Nat.lt_mul_div_succ _ hn⟩

/-- Settles O19: a value set by `Part.measure_aggregator` and what the close reads, the ageing by `Recurrence.ageAt_eq`, and the record's
items one by one. -/
theorem intervalsAreFilledClosedAndRecorded : Obligations.IntervalsAreFilledClosedAndRecorded := by
  unfold Obligations.IntervalsAreFilledClosedAndRecorded
  refine ⟨?filled, ?closed, ?recorded⟩
  case filled =>
    rintro p q vs first b n k len opened hentries rfl rfl rfl hlen hk hopened
    rw [← gridInterval_eq _ _ _ hlen hk, ← Part.intervalAt] at hopened
    have hq := p.measure_aggregator vs first
    rw [← hopened] at hq
    refine ⟨fun c hnone => ?_, fun c e hsome => ?_, Aggregator.assign_eq hentries opened _ _ hq,
      Part.measure_commit_of_lt first, fun hover => ⟨Part.measure_admitted first hover, Part.measure_dropped first hover⟩⟩
    · rw [hq]
      exact Aggregator.assign_get_of_none hentries opened _ hnone
    · rw [hq]
      exact Aggregator.assign_get_of_some hentries opened _ hsome
  case closed =>
    rintro p f age aged rfl hentries hrevision
    have haged := Recurrence.ageAt_eq hentries hrevision
    rw [← p.handInterval_recurrence (p.intervalRec f), ← p.handInterval_profile (p.intervalRec f)] at haged
    rw [Part.closeInterval_eq, Part.ageTable_of_ageAt haged]
    rfl
  case recorded =>
    intro a pr withheld
    refine ⟨rfl, rfl, rfl, rfl, fun c h => (Tri.get_build _ c).trans (Aggregator.block_eq_none h), fun hsum => ⟨?value, ?limit⟩,
      fun h => if_pos h, ?frequency⟩
    case value =>
      intro c low high huse hlow hhigh
      obtain ⟨hroot, hnext⟩ := isqrt_exact (mean_lt_two_pow (hsum c))
      exact ⟨_, hroot, hnext, (Tri.get_build _ c).trans (Aggregator.block_eq_some huse hlow hhigh)⟩
    case limit => exact ⟨a.limited pr, rfl, Aggregator.limited_iff pr hsum⟩
    case frequency =>
      intro hpos hshort hlong
      exact ⟨_, frequency_pos _ hpos, rfl, frequency_bounds hpos hshort hlong rfl⟩

end Sys2Proof.Machine

namespace Sys2Proof.Machine

/-! ## A full slot (R107, R109) -/

theorem exec_slotFull {s : State} (n : BitVec 2) (h : s.alive = true) :
    exec (.slotFull n) s = .next (s.leaves (s.entered.settleFull n.toNat)) :=
  congrArg _ (State.runDue_of_alive (fun p => p.settleFull n.toNat) h)

theorem Part.mayExtend_iff (p : Part) (c : CapSlot) :
    p.mayExtend c = true ↔
      c.trigger ≠ .manual ∧ p.classifier.holdsChain c.serial = true ∧ p.capture.chainLength c.serial < 1 + c.allowance := by
  simp only [Part.mayExtend, Bool.and_eq_true, decide_eq_true_eq, and_assoc]

section FullSlot

variable {p : Part} {i : Nat} {c : CapSlot} (hslot : p.capture.slot i = some c)
include hslot

theorem Part.settleFull_eq_extendOrEnd (hheld : c.held = false) (hfull : c.remaining = 0) (hlast : c.next = none) :
    p.settleFull i = p.extendOrEnd i :=
  if_pos (by simp [Part.slotFullDue, hslot, hheld, hfull, hlast])

theorem Part.extendOrEnd_of_extends {j : Nat} (hmay : p.mayExtend c = true) (hfree : p.capture.freeSlot = some j) :
    p.extendOrEnd i = { p with capture := { p.capture with
      slots := (p.capture.slots.set i (some { c with next := some j })).set j
        (some { c with preCount := 0, frames := [], remaining := 4096, next := none }) } } := by
  simp only [Part.extendOrEnd, hslot, hmay, if_true, hfree]
  rfl

theorem Part.extendOrEnd_of_ends (h : ¬ p.mayExtend c = true ∨ p.capture.freeSlot = none) :
    p.extendOrEnd i = p.endFilling c.serial p.nowFrame false := by
  have hnone : (if p.mayExtend c then p.capture.freeSlot else none) = none := by
    split
    · exact h.resolve_left (not_not_intro ‹_›)
    · rfl
  simp only [Part.extendOrEnd, hslot, hnone]

end FullSlot

/-- A chain whose filling has ended without truncation: every slot HELD from a frame on (R109). -/
def Capture.holdChain (c : Capture) (serial start length : Nat) : Capture :=
  c.mapChain serial (fun y => { y with held := true, holdStart := start, holdLength := length })

/-- A filling that ends untruncated holds the chain and hands on its CAPTURE record (R109). -/
theorem Part.endFilling_untruncated {p : Part} {serial hold : Nat} {ended : Capture}
    (hended : ended = p.capture.holdChain serial hold (p.profile.inForce.capHold.toNat * 36864000)) :
    p.endFilling serial hold false = (ended.record serial).elim { p with capture := ended }
      (fun r => { p with capture := ended }.handRecord (p.buildRec .recorder hold (.capture r))) := by
  have hmap : p.capture.mapChain serial (fun y => { y with
      held := true, holdStart := hold, holdLength := p.profile.inForce.capHold.toNat * hourFrames
      truncated := y.truncated || false, remaining := if false then 0 else y.remaining }) = ended := by
    rw [hended]
    simp only [Bool.or_false, Bool.false_eq_true, if_false]
    rfl
  simp only [Part.endFilling, hmap]
  cases ended.record serial <;> rfl

/-! ## A HELD chain's expiry (R111) -/

theorem exec_captureExpiry {s : State} (n : BitVec 2) (h : s.alive = true) :
    exec (.captureExpiry n) s = .next (s.leaves (s.entered.settleExpiry n.toNat)) :=
  congrArg _ (State.runDue_of_alive (fun p => p.settleExpiry n.toNat) h)

theorem Part.settleExpiry_of_held {p : Part} {i : Nat} {c : CapSlot} (hslot : p.capture.slot i = some c) (hheld : c.held = true)
    (hdelivered : p.receiver.delivered = true) (hfailing : p.failing = false) :
    p.settleExpiry i = if c.holdStart + c.holdLength ≤ p.receiver.frameIndex
      then { p with capture := p.capture.freeChain c.serial } else p := by
  simp [Part.settleExpiry, Part.expiryDue, Part.expire, hslot, hheld, hdelivered, hfailing]

/-- Settles O39: SLOT_FULL runs `Part.extendOrEnd`, whose two outcomes `Part.mayExtend` and the FREE slot decide, and CAPTURE_EXPIRY frees
the chain from the expiry frame on. -/
theorem fullSlotsExtendOrEndAndHeldChainsExpire : Obligations.FullSlotsExtendOrEndAndHeldChainsExpire := by
  unfold Obligations.FullSlotsExtendOrEndAndHeldChainsExpire
  rintro s n c p halive rfl hslot
  refine ⟨?full, ?expiry⟩
  case full =>
    rintro hheld hfull hlast goesOn rfl
    rw [exec_slotFull n halive, Part.settleFull_eq_extendOrEnd hslot hheld hfull hlast, ← Part.mayExtend_iff]
    refine ⟨fun hmay j hfree => ?extended, fun hends ended hended => ?ends⟩
    case extended => rw [Part.extendOrEnd_of_extends hslot hmay hfree]
    case ends =>
      rw [Part.extendOrEnd_of_ends hslot hends, Part.endFilling_untruncated hended]
      cases ended.record c.serial <;> rfl
  case expiry =>
    intro hheld hdelivered hfailing
    rw [exec_captureExpiry n halive, Part.settleExpiry_of_held hslot hheld hdelivered hfailing]
    refine ⟨fun hbefore => ?undue, fun hpast => ?expired⟩
    case undue => rw [if_neg (Nat.not_le.mpr hbefore)]
    case expired =>
      rw [if_pos hpast]
      rfl

/-! ## Requests that a port serves (R172) -/

section Serves

variable {s : State} {q : Party} (h : s.serves q)
include h

/-- A request that passes checks 4 and 5 runs on the part found, its transfer opened (R172). -/
theorem State.serves.runPart_request (tag : Byte) (body : Part → Part) :
    s.runPart (Part.request q tag body) = s.leaves (body (s.found.openTransfer q)) := by
  obtain ⟨halive, hstarting, hidle⟩ := h
  rw [State.runPart_of_alive _ halive, Part.request_taken tag body hstarting hidle]

/-- Outside a supply failure check 6 passes too (R172). -/
theorem State.serves.runPart_guardedRequest (tag : Byte) (body : Part → Part) (hfailing : s.found.failing = false) :
    s.runPart (Part.guardedRequest q tag body) = s.leaves (body (s.found.openTransfer q)) := by
  have hgate : (s.found.openTransfer q).gateFailing q tag body = body (s.found.openTransfer q) :=
    if_neg (by rw [Part.openTransfer_failing, hfailing]; exact Bool.false_ne_true)
  rw [← hgate]
  exact h.runPart_request tag _

/-- The port has no request in progress (R172, check 4). -/
theorem State.serves.idle : (s.found.ports.get q).inProgress = none := h.2.2

end Serves

/-- The answer formed is the one change beside the capture unit's (R173). -/
theorem Part.openTransfer_answer_capture {p : Part} {q : Party} (tag : Byte) (status : Status) (body : Body) (c : Capture)
    (h : (p.ports.get q).inProgress = none) :
    { p.openTransfer q with capture := c }.answer q tag status body = { p with capture := c }.answer q tag status body :=
  Part.openTransfer_answer { p with capture := c } q tag status body h

theorem State.leaves_answer (s : State) (q : Party) (tag : Byte) (status : Status) (body : Body) :
    s.leaves (s.found.answer q tag status body) = s.answers q tag status body := rfl

/-! ## Capture Now (R102, R105, R106) -/

/-- A trigger at the newest frame of the ring finds no frame after it, so its slot begins with the newest frames of the ring (R105, R106). -/
theorem newSlot_of_newest {ring : List RingFrame} {n pre : Nat} {pr : Profile} (delivered : Bool) (serial : Nat) (trigger : Trigger)
    (event : Option Nat) (origin : Origin) (hring : ∀ f ∈ ring, f.index ≤ n) (hpre : pre = min pr.capPre.toNat ring.length) :
    newSlot ring pr delivered serial trigger event origin n = {
      held := false, serial := serial, trigger := trigger, event := event, origin := origin, triggerFrame := n
      firstFrame := if delivered then n + 1 - pre else 0
      preCount := pre, frames := (ring.drop (ring.length - pre)).map RingFrame.content
      remaining := pr.capPre.toNat + pr.capPost.toNat - pre, allowance := pr.capExt.toNat
      target := pr.capPre.toNat + pr.capPost.toNat, preTrigger := pr.capPre.toNat, next := none
      truncated := false, released := ⟨false, false, false⟩, holdStart := 0, holdLength := 0 } := by
  have hbefore : ring.filter (fun f => decide (f.index ≤ n)) = ring :=
    List.filter_eq_self.mpr fun f hf => decide_eq_true (hring f hf)
  have hafter : ring.filter (fun f => decide (n < f.index)) = [] :=
    List.filter_eq_nil_iff.mpr fun f hf => by simpa using hring f hf
  simp only [newSlot, hbefore, hafter, ← hpre, List.take_nil, List.append_nil, List.length_nil, Nat.sub_zero]
  rfl

/-- A trigger whose frame no gap has taken fills the lowest-numbered FREE slot from the ring (R102, R105, R106). -/
theorem Part.takeSlot_of_noGap {p : Part} {i frame : Nat} (trigger : Trigger) (event : Option Nat) (origin : Origin)
    (hfree : p.capture.freeSlot = some i) (hgap : p.gapAfter frame = none) :
    p.takeSlot trigger event origin frame = some ((p.capture.nextSerial, i), { p with capture := { p.capture with
      slots := p.capture.slots.set i (some
        (newSlot p.capture.ring p.profile.inForce p.receiver.delivered p.capture.nextSerial trigger event origin frame))
      nextSerial := nextNumber p.capture.nextSerial } }) := by
  simp only [Part.takeSlot, hfree, hgap, Option.isSome_none, Bool.false_eq_true, if_false]

section CaptureNow

variable {p : Part} {q : Party} (tag : Byte) (hidle : (p.ports.get q).inProgress = none)
include hidle

theorem Part.captureNow_of_busy (hfree : p.capture.freeSlot = none) :
    (p.openTransfer q).captureNow q tag = p.answer q tag .captureBusy .none := by
  simp only [Part.captureNow, Part.takeSlot, Part.openTransfer_capture, hfree, Part.openTransfer_answer p q _ _ _ hidle]

theorem Part.captureNow_of_free {i : Nat} (hfree : p.capture.freeSlot = some i) (hgap : p.gapAfter p.nowFrame = none) :
    (p.openTransfer q).captureNow q tag = { p with capture := { p.capture with
      slots := p.capture.slots.set i (some (newSlot p.capture.ring p.profile.inForce p.receiver.delivered p.capture.nextSerial
        .manual none (.party q) p.nowFrame))
      nextSerial := nextNumber p.capture.nextSerial } }.answer q tag .ok
        (.captureTaken p.capture.nextSerial p.nowFrame i) := by
  have htaken := Part.takeSlot_of_noGap (p := p.openTransfer q) (frame := (p.openTransfer q).nowFrame) .manual none (.party q)
    hfree hgap
  simp only [Part.captureNow, htaken]
  exact Part.openTransfer_answer_capture tag _ _ _ hidle

end CaptureNow

theorem State.serves.exec_captureNow {s : State} {q : Party} (h : s.serves q) (tag : Byte) (hfailing : s.found.failing = false) :
    exec (.captureNow q tag) s = .next (s.leaves ((s.found.openTransfer q).captureNow q tag)) :=
  congrArg _ (h.runPart_guardedRequest tag _ hfailing)

/-! ## Read Capture (R112) -/

section ReadCapture

variable {p : Part} (q : Party) (tag : Byte) (serial : BitVec 32) (offset : BitVec 16) {count : Byte}

theorem Part.readCapture_of_outOfRange (h : count = 0#8 ∨ 64 < count.toNat) :
    p.readCapture q tag serial offset count = p.answer q tag .outOfRange .none := by
  refine if_neg fun hin => ?_
  obtain ⟨hlow, hhigh⟩ := (inRange_iff 1 64 count.toNat).mp hin
  rcases h with rfl | hbeyond
  · exact absurd hlow (by decide)
  · exact Nat.not_lt.mpr hhigh hbeyond

variable (hlow : 1 ≤ count.toNat) (hhigh : count.toNat ≤ 64)
include hlow hhigh

theorem Part.readCapture_of_gone (hchain : p.capture.chain serial.toNat = []) :
    p.readCapture q tag serial offset count = p.answer q tag .captureGone .none := by
  simp only [Part.readCapture, (inRange_iff 1 64 count.toNat).mpr ⟨hlow, hhigh⟩, if_true, hchain, List.head?_nil]

theorem Part.readCapture_of_chain {x : CapSlot} {rest : List CapSlot} (hchain : p.capture.chain serial.toNat = x :: rest) :
    p.readCapture q tag serial offset count = p.answer q tag
      (readCaptureStatus x.held offset.toNat count.toNat ((x :: rest).flatMap CapSlot.frames).length)
      (.capture (p.capture.header serial.toNat x)
        ((((x :: rest).flatMap CapSlot.frames).drop offset.toNat).take count.toNat)) := by
  simp only [Part.readCapture, (inRange_iff 1 64 count.toNat).mpr ⟨hlow, hhigh⟩, if_true, Capture.chainFrames, hchain, List.head?_cons]

end ReadCapture

theorem Part.readCapture_openTransfer {p : Part} {q : Party} (tag : Byte) (serial : BitVec 32) (offset : BitVec 16) (count : Byte)
    (h : (p.ports.get q).inProgress = none) :
    (p.openTransfer q).readCapture q tag serial offset count = p.readCapture q tag serial offset count := by
  simp only [Part.readCapture, Part.openTransfer_capture, Part.openTransfer_answer p q _ _ _ h]

theorem State.serves.exec_readCapture {s : State} {q : Party} (h : s.serves q) (tag : Byte) (serial : BitVec 32) (offset : BitVec 16)
    (count : Byte) :
    exec (.readCapture q tag serial offset count) s = .next (s.leaves (s.found.readCapture q tag serial offset count)) := by
  rw [← Part.readCapture_openTransfer tag serial offset count h.idle]
  exact congrArg _ (h.runPart_request tag _)

/-- The header of a chain read from its first slot (R112). -/
theorem Capture.header_of_chain {c : Capture} {serial : Nat} {x : CapSlot} {rest : List CapSlot} (hchain : c.chain serial = x :: rest) :
    c.header serial x = {
      serial := serial, held := x.held, trigger := x.trigger, event := x.event, origin := x.origin
      triggerFrame := x.triggerFrame, firstFrame := x.firstFrame, preCount := x.preCount
      framesHeld := ((x :: rest).flatMap CapSlot.frames).length, slots := rest.length + 1, truncated := x.truncated } := by
  simp only [Capture.header, Capture.chainFrames, hchain, List.length_cons]

/-! ## Release Capture (R110) -/

theorem PartySet.get_add_iff (t : PartySet) (q r : Party) : (PartySet.add t q).get r = true ↔ r = q ∨ t.get r = true := by
  rw [PartySet.add, PerParty.get_set]
  split <;> simp [*]

/-- Once a party has released, a chain is free when every other enrolled party had released it (R110). -/
theorem allReleased_add_iff (pr : Profile) (released : PartySet) (q : Party) :
    allReleased pr (PartySet.add released q) = true ↔
      ∀ party, pr.isEnrolled party = true → party = q ∨ released.get party = true := by
  have hlist : ∀ party, party ∈ Party.list := fun party => by cases party <;> decide
  have himp : ∀ a b : Bool, (!a || b) = true ↔ (a = true → b = true) := by decide
  simp only [allReleased, List.all_eq_true, himp, PartySet.get_add_iff]
  exact ⟨fun h party => h party (hlist party), fun h party _ => h party⟩

/-- What a release makes of the capture unit: the chain FREE, or the party in its released set (R110). -/
def Capture.afterRelease (c : Capture) (serial : Nat) (q : Party) (freed : Bool) : Capture :=
  { c with slots := c.slots.map (fun y => if hasSerial serial y
    then (if freed then none else y.map (fun z => { z with released := z.released.set q true })) else y) }

theorem Part.releaseChain_eq {p : Part} {q : Party} {x : CapSlot} {freed : Bool} (tag : Byte) (serial : Nat)
    (hfreed : freed = true ↔ ∀ party, p.profile.inForce.isEnrolled party = true → party = q ∨ x.released.get party = true) :
    p.releaseChain q tag serial x =
      { p with capture := p.capture.afterRelease serial q freed }.answer q tag .ok (.captureReleased freed) := by
  rw [← allReleased_add_iff, ← Bool.eq_iff_iff] at hfreed
  rw [Part.releaseChain, ← hfreed]
  cases freed <;> rfl

section ReleaseCapture

variable {p : Part} {q : Party} (tag : Byte) (serial : BitVec 32)

theorem Part.releaseCapture_of_notEnrolled (h : p.profile.inForce.isEnrolled q = false) :
    p.releaseCapture q tag serial = p.answer q tag .notEnrolled .none := by
  simp only [Part.releaseCapture, h, Bool.false_eq_true, if_false]

theorem Part.releaseCapture_of_gone (h : p.profile.inForce.isEnrolled q = true) (hchain : p.capture.chain serial.toNat = []) :
    p.releaseCapture q tag serial = p.answer q tag .captureGone .none := by
  simp only [Part.releaseCapture, h, if_true, hchain, List.head?_nil]

theorem Part.releaseCapture_of_chain {x : CapSlot} {rest : List CapSlot} (h : p.profile.inForce.isEnrolled q = true)
    (hchain : p.capture.chain serial.toNat = x :: rest) :
    p.releaseCapture q tag serial =
      if x.held then p.releaseChain q tag serial.toNat x else p.answer q tag .captureBusy .none := by
  simp only [Part.releaseCapture, h, if_true, hchain, List.head?_cons]

end ReleaseCapture

theorem Part.releaseChain_openTransfer {p : Part} {q : Party} (tag : Byte) (serial : Nat) (x : CapSlot)
    (h : (p.ports.get q).inProgress = none) :
    (p.openTransfer q).releaseChain q tag serial x = p.releaseChain q tag serial x :=
  ite_congr rfl (fun _ => Part.openTransfer_answer_capture tag _ _ _ h) (fun _ => Part.openTransfer_answer_capture tag _ _ _ h)

theorem Part.releaseCapture_openTransfer {p : Part} {q : Party} (tag : Byte) (serial : BitVec 32)
    (h : (p.ports.get q).inProgress = none) :
    (p.openTransfer q).releaseCapture q tag serial = p.releaseCapture q tag serial := by
  simp only [Part.releaseCapture, Part.openTransfer_capture, Part.openTransfer_profile, Part.openTransfer_answer p q _ _ _ h,
    Part.releaseChain_openTransfer tag _ _ h]

theorem State.serves.exec_releaseCapture {s : State} {q : Party} (h : s.serves q) (tag : Byte) (serial : BitVec 32) :
    exec (.releaseCapture q tag serial) s = .next (s.leaves (s.found.releaseCapture q tag serial)) := by
  rw [← Part.releaseCapture_openTransfer tag serial h.idle]
  exact congrArg _ (h.runPart_request tag _)

/-- Settles O54: each request on the part found, case by case, its answer formed in the port's transfer. -/
theorem captureRequestsActOnTheSlots : Obligations.CaptureRequestsActOnTheSlots := by
  unfold Obligations.CaptureRequestsActOnTheSlots
  rintro s q tag c pr hserves rfl rfl
  refine ⟨fun hfailing => ?now, fun serial offset count => ?read, fun serial => ?release⟩
  case now =>
    rw [hserves.exec_captureNow tag hfailing]
    refine ⟨fun hfree => ?busy, fun i pre hfree hring hresumed hpre => ?taken⟩
    case busy => rw [Part.captureNow_of_busy tag hserves.idle hfree, State.leaves_answer]
    case taken =>
      rw [Part.captureNow_of_free tag hserves.idle hfree (Part.gapAfter_eq_none.mpr hresumed), newSlot_of_newest _ _ _ _ _ hring hpre]
      rfl
  case read =>
    rw [hserves.exec_readCapture]
    refine ⟨fun hcount => ?outOfRange, fun hlow hhigh => ⟨fun hchain => ?gone, ?chain⟩⟩
    case outOfRange => rw [Part.readCapture_of_outOfRange q tag serial offset hcount, State.leaves_answer]
    case gone => rw [Part.readCapture_of_gone q tag serial offset hlow hhigh hchain, State.leaves_answer]
    case chain =>
      rintro x rest frames hchain rfl
      rw [Part.readCapture_of_chain q tag serial offset hlow hhigh hchain, Capture.header_of_chain hchain]
      rfl
  case release =>
    rw [hserves.exec_releaseCapture]
    refine ⟨fun henrolled => ?notEnrolled, fun henrolled hchain => ?gone, fun x rest henrolled hchain => ?chain⟩
    case notEnrolled => rw [Part.releaseCapture_of_notEnrolled tag serial henrolled, State.leaves_answer]
    case gone => rw [Part.releaseCapture_of_gone tag serial henrolled hchain, State.leaves_answer]
    case chain =>
      rw [Part.releaseCapture_of_chain tag serial henrolled hchain]
      refine ⟨fun hfilling => ?filling, fun hheld freed hfreed => ?held⟩
      case filling => rw [hfilling, if_neg Bool.false_ne_true, State.leaves_answer]
      case held =>
        rw [if_pos hheld, Part.releaseChain_eq tag serial.toNat hfreed]
        rfl

end Sys2Proof.Machine
